-- ==== Sys2Proof/Word.lean ====
section
/-! DEFINITION. The plain words and fixed-size groups of the TD-4: bytes, values per track, per element and per side. -/

namespace Sys2Proof

/-- A byte of either port, of an element frame or of a record. -/
abbrev Byte := BitVec 8

/-- The two programmes of a cassette (00_scope section 5): side A is T0 and T1, side B is T2 and T3. -/
inductive Side where
  | A
  | B
deriving DecidableEq, Repr

/-- One value for each of the four tracks T0 to T3. -/
structure Quad (α : Type) where
  t0 : α
  t1 : α
  t2 : α
  t3 : α
deriving DecidableEq, Repr

/-- One value for each of the eight elements E0 to E7. -/
structure Oct (α : Type) where
  e0 : α
  e1 : α
  e2 : α
  e3 : α
  e4 : α
  e5 : α
  e6 : α
  e7 : α
deriving DecidableEq, Repr

/-- One value for each side. -/
structure PerSide (α : Type) where
  a : α
  b : α
deriving DecidableEq, Repr

/-- The value of track `t`. -/
def Quad.get {α : Type} (q : Quad α) : Fin 4 → α
  | 0 => q.t0
  | 1 => q.t1
  | 2 => q.t2
  | 3 => q.t3

/-- The group whose value on each track is given by `f`. -/
def Quad.ofFn {α : Type} (f : Fin 4 → α) : Quad α := ⟨f 0, f 1, f 2, f 3⟩

/-- The same value on every track. -/
def Quad.fill {α : Type} (a : α) : Quad α := ⟨a, a, a, a⟩

/-- The four values, T0 first. -/
def Quad.toList {α : Type} (q : Quad α) : List α := [q.t0, q.t1, q.t2, q.t3]

/-- The value of element `e`. -/
def Oct.get {α : Type} (o : Oct α) : Fin 8 → α
  | 0 => o.e0
  | 1 => o.e1
  | 2 => o.e2
  | 3 => o.e3
  | 4 => o.e4
  | 5 => o.e5
  | 6 => o.e6
  | 7 => o.e7

/-- The group whose value on each element is given by `f`. -/
def Oct.ofFn {α : Type} (f : Fin 8 → α) : Oct α := ⟨f 0, f 1, f 2, f 3, f 4, f 5, f 6, f 7⟩

/-- The same value on every element. -/
def Oct.fill {α : Type} (a : α) : Oct α := ⟨a, a, a, a, a, a, a, a⟩

/-- The eight values, E0 first. -/
def Oct.toList {α : Type} (o : Oct α) : List α := [o.e0, o.e1, o.e2, o.e3, o.e4, o.e5, o.e6, o.e7]

/-- The value of a side. -/
def PerSide.get {α : Type} (p : PerSide α) : Side → α
  | .A => p.a
  | .B => p.b

/-- The group with the value of one side replaced. -/
def PerSide.set {α : Type} (p : PerSide α) : Side → α → PerSide α
  | .A, x => { p with a := x }
  | .B, x => { p with b := x }

end Sys2Proof
end

