-- ==== Sys2Proof/Syntax.lean ====
section
/-! DEFINITION. The commands and events of the TD-4: one constructor for each row of the operations table. -/

namespace Sys2Proof

/-- The direction of a tachometer pulse, and of tape motion. -/
inductive Dir where
  | forward
  | reverse
deriving DecidableEq, Repr

/-- What the leader mark sensor sees at one point of the tape path. -/
inductive Level where
  | clearTape
  | opaqueTape
deriving DecidableEq, Repr

/-- The three settings of the store-size strap (R64). -/
inductive Strap where
  | tiedLow
  | openPin
  | tiedHigh
deriving DecidableEq, Repr

/-- The steps of the TD-4, each whole and indivisible. Arguments are the numbers as they arrive on the wire, in or out
of range: the rules test them. The level of the mark sensor and the setting of the strap, which the part samples at
some events, are arguments of those events (log 2). -/
inductive Instr where
  -- pins, pulses, frames and timers
  | powerOnReset (strap : Strap) (sensor : Level)
  | tachometerPulse (dir : Dir) (sensor : Level)
  | elementFrame (bytes : List Byte)
  | inputTimerExpiry
  | takeTimerExpiry
  -- the transport port
  | status
  | motion (mode : Nat) (sensor : Level)
  | take
  | abandon (id : Nat)
  | notice
  | ahead
  | transportRestart
  | unknownCommand (command : Nat)
  | transactionDiscarded (received : List Byte)
  -- reception on the archive link
  | linkHeader (bytes : List Byte)
  | gapTimeout
  | linkFrame (bytes : List Byte)
  -- commands of the archive link
  | profileLoad (image : List Byte)
  | profileRead
  | mapRead (first count : Nat)
  | mapSummary
  | excludePass (segment pass : Nat)
  | includePass (segment pass : Nat)
  | setHazard (first last value : Nat)
  | clearHazard (first last : Nat)
  | setSplice (segment offset : Nat)
  | clearSplice (segment : Nat)
  | keep (first last : Nat)
  | unkeep (first last : Nat)
  | requestAppend (first last : Nat)
  | requestCancel (id : Nat)
  | queueRead
  | render (segment side : Nat)
  | slotRead (first count : Nat)
  | fetchRendition (slot first count : Nat)
  | slotRelease (slot : Nat)
  | stripRead (strip : Nat)
  | fetchRaw (strip element first count : Nat)
  | tallyRead
  | newTape
  | resumeTape
  | workstationRestart
  -- completions
  | linkFrameSent
  | writeBurstComplete
  | linkReadBurstComplete
  | renderBurstComplete
deriving DecidableEq, Repr

end Sys2Proof
end

