-- ==== Sys2Proof/Decode.lean ====
section
/-! DEFINITION. Reading a command from a word of the operations table. The table gives bits to none of its rows
(no row has a fixed word or a field), so no word spells a command. The byte forms in which commands really arrive,
the element frame, the transport transaction and the link frame, are read in Machine/Operands.lean and
Machine/Receiver.lean. -/

namespace Sys2Proof

/-- The command a word of the table spells: none, since no row of the table has bits. -/
def decodeTableWord (_nbits _w : Nat) : Option Instr := none

end Sys2Proof
end

