-- ==== Sys2Proof/Config.lean ====
section
/-! DEFINITION. What the TD-4 fixes once (00_scope section 4), and the one choice its reference leaves free. -/

namespace Sys2Proof.Config

/-- Pulses of one span. -/
abbrev spanPulses : Nat := 32
/-- Pulses of one segment. -/
abbrev segPulses : Nat := 512
/-- Segments of the tape map. -/
abbrev segments : Nat := 4096
/-- The first position beyond the map. -/
abbrev mapEnd : Int := 2097152
/-- The lower limit of the position. -/
abbrev positionMin : Int := -8388608
/-- The upper limit of the position. -/
abbrev positionMax : Int := 8388607
/-- Frames a strip holds. -/
abbrev stripFrames : Nat := 262144
/-- Frames of a capture cell, and stored frames of a store block. -/
abbrev cellFrames : Nat := 64
/-- The limit of every 16-bit count that saturates. -/
abbrev countMax : Nat := 65535
/-- Passes of one session at most. -/
abbrev passMax : Nat := 65535
/-- Pass entries of one segment at most. -/
abbrev entryMax : Nat := 4
/-- Live re-read requests at most. -/
abbrev requestMax : Nat := 16
/-- Jobs the render queue holds. -/
abbrev renderQueueMax : Nat := 8
/-- Rendition slots. -/
abbrev slotCount : Nat := 32
/-- Notices the transport notice FIFO holds. -/
abbrev fifoMax : Nat := 8
/-- Notices the workstation notice list holds. -/
abbrev noticeMax : Nat := 32
/-- Commands the pending list holds. -/
abbrev pendingMax : Nat := 16
/-- Samples of an output cell (R140). -/
abbrev outCell : Nat := 32
/-- Samples of a crossfade (R143). -/
abbrev fadeLength : Nat := 8
/-- Sample pairs one store burst of rendition data moves. DESIGN CHOICE (log 7): a block is 2,048 bytes and a pair
is 6, so 341 pairs fill one; R76 gives only the upper bound. Unsafe. -/
abbrev pairsPerBurst : Nat := 341
/-- Bursts the records of one strip take. DESIGN CHOICE (log 7): descriptor and span table (1,626 bytes) in one
block, the dropout map (4,096 bytes) in two. Unsafe. -/
abbrev recordBursts : Nat := 3

/-- Whether, at a transport RESTART that finds a pass open and its request ACTIVE, the pass close reaches the
Request Queue before the restart does. R123 allows both orders; nothing in this model decides it. The argument
is the number of such choices made before. Safe: every statement holds for both answers. -/
opaque closeReachesQueueFirst : Nat → Bool

end Sys2Proof.Config
end

