-- ==== Sys2Proof/Machine/State.lean ====
section
/-! DEFINITION. The state of the TD-4: everything its eleven blocks own, as plain data, and its value after reset. -/

namespace Sys2Proof.Machine

/-- A table indexed by number, in ONE canonical form: indices strictly rising, no entry equal to the value an unlisted
index has (Machine/Table.lean). -/
abbrev Table (α : Type) := List (Nat × α)

/-! ## Codes and small types -/

/-- The status codes of both ports (00_scope section 8, R203). -/
inductive Status where
  | ok
  | busy
  | range
  | full
  | worn
  | duplicate
  | none
  | notHeld
  | evicted
  | keepLimit
  | badProfile
  | state
  | tooLate
  | unknown
  | crcError
deriving DecidableEq, Repr

/-- The declared motion mode (1.2). -/
inductive Mode where
  | unloaded
  | stop
  | play
  | reversePlay
  | windForward
  | windReverse
deriving DecidableEq, Repr

/-- The sync state (R11). -/
inductive Sync where
  | unsynced
  | synced
deriving DecidableEq, Repr

/-- The session state (5.8). -/
inductive Session where
  | vacant
  | armed
  | detached
  | stale
deriving DecidableEq, Repr

/-- The cause with which a pass closes (R41). -/
inductive CloseCause where
  | motion
  | restart
  | mapEdge
  | endMark
  | inputLost
deriving DecidableEq, Repr

/-- The cause with which a render job is aborted or ends unrendered (R128, R146, R148). -/
inductive AbortCause where
  | notHeld
  | evicted
  | newTape
deriving DecidableEq, Repr

/-- What is output for a cell with no usable candidate (R142). -/
inductive Concealment where
  | holdBest
  | mute
deriving DecidableEq, Repr

/-! ## Pins -/

/-- The static and sampled input pins, as last sampled: the strap at the last power-on or reset pin, the mark sensor
at the last counted pulse, load or reset (log 2). The attention line, an output, is held with the transport port. -/
structure Pins where
  strap : Strap
  sensor : Level
deriving DecidableEq, Repr

/-! ## Motion Tracker -/

/-- What opened a clear interval, with the entry position for an edge (R6). -/
inductive ClearEntry where
  | load
  | forwardEdge (e : Int)
  | reverseEdge (e : Int)
deriving DecidableEq, Repr

/-- The Tracker's account of the clear stretch under the sensor (R6); `long` is the standing LONG. -/
structure ClearInterval where
  entry : ClearEntry
  long : Bool
deriving DecidableEq, Repr

/-- High-water position and next boundary, present while a pass is open (R15). -/
structure HighWater where
  position : Int
  next : Int
deriving DecidableEq, Repr

/-- A head-engaged run: the lowest and highest segment counted in it, absent while none (R16, R17). -/
structure Run where
  counted : Option (Nat × Nat)
deriving DecidableEq, Repr

/-- The Motion Tracker's state (01, first table). -/
structure Motion where
  position : Int
  sync : Sync
  mode : Mode
  lastDir : Option Dir
  high : Option HighWater
  sensorLevel : Level
  edgeTravel : Nat
  clearInterval : Option ClearInterval
  largestSlip : Nat
  slipCount : Nat
  syncFaults : Nat
  tapeEnd : Option Int
  run : Option Run
deriving DecidableEq, Repr

/-! ## Timebase -/

/-- The timebase source of a side (R45). -/
inductive Source where
  | tach
  | resLeft
  | resRight
deriving DecidableEq, Repr

/-- The lock state of a side (R49). -/
inductive LockState where
  | unlocked
  | locked
  | tach
deriving DecidableEq, Repr

/-- The timebase settings fixed at pass open (R45). Speeds in um per second, limits in 16.16 samples. -/
structure TimebaseSettings where
  speed : Nat
  bias : Nat
  window : Nat
  slewUp : Nat
  slewDown : Nat
  jump : Bool
  source : PerSide Source
deriving DecidableEq, Repr

/-- The state of one side while a pass is open (03, first table). Its source stands in the settings. -/
structure SideTimebase where
  lock : LockState
  acceptRun : Nat
  rejectRun : Nat
  nPrev : Int
  accumulator : Nat
deriving DecidableEq, Repr

/-- The Timebase Unit's state, present while a pass is open. -/
structure Timebase where
  settings : TimebaseSettings
  tTach : Nat
  sides : PerSide SideTimebase
deriving DecidableEq, Repr

/-- The fields the Timebase Unit stores for one side of a VALID span (R58). `accepted` is the verdict, absent for a
TACH side. -/
structure SpanTimebase where
  applied : Int
  lock : LockState
  accepted : Option Bool
  fraction : Nat
deriving DecidableEq, Repr

/-! ## Capture -/

/-- A span's validity (R30). -/
inductive Validity where
  | valid
  | overrun
  | cut
  | part
  | empty
  | unreached
deriving DecidableEq, Repr

/-- The capture settings fixed at pass open (R25). -/
structure CaptureSettings where
  enables : Oct Bool
  dropThreshold : Nat
  initialLevel : Nat
  levelFloor : Nat
deriving DecidableEq, Repr

/-- One stored frame: eight element samples and eight overload flags, bit e for element e (R64). -/
structure StoredFrame where
  samples : Oct Int
  overload : Byte
deriving DecidableEq, Repr

/-- One complete element frame as it arrives (R19, R200). -/
structure ElementFrame where
  samples : Oct Int
  overload : Byte
  residue : Quad (BitVec 16)
deriving DecidableEq, Repr

/-- A span being measured: the span in progress, or the closing span, for which `ended` holds the validity fixed at
its end and `means` its span means (02, first table). -/
structure SpanCount where
  segment : Nat
  index : Nat
  whole : Bool
  first : Nat
  frames : Nat
  startResidue : Quad (BitVec 16)
  sums : Oct Nat
  overload : Oct Nat
  cells : Nat
  dropped : Oct Nat
  snapshot : Quad Nat
  backtrack : Bool
  ended : Option Validity
  means : Oct Nat
deriving DecidableEq, Repr

/-- The capture cell being filled (R32, R34). -/
structure Cell where
  index : Nat
  taken : Nat
  sums : Oct Nat
deriving DecidableEq, Repr

/-- The segment an open pass is in, and its open strip. -/
structure Entered where
  segment : Nat
  strip : Nat
deriving DecidableEq, Repr

/-- The open pass: its number, the segment entered (absent only inside a step, between a segment and the close at its
boundary), and the last segment entered. -/
structure OpenPass where
  number : Nat
  entered : Option Entered
  lastSegment : Nat
deriving DecidableEq, Repr

/-- The Capture Unit's state (02, first table). The pass state is CAPTURING exactly while `pass` is present. -/
structure Capture where
  pass : Option OpenPass
  settings : CaptureSettings
  frameCount : Nat
  overrun : Bool
  span : Option SpanCount
  closing : Option SpanCount
  cell : Option Cell
  reference : Quad Nat
  lastResidue : Option (Quad (BitVec 16))
  inputTimer : Bool
  inputWait : Bool
  limitNoticed : Bool
  tallies : Oct Nat
deriving DecidableEq, Repr

/-! ## The capture store -/

/-- VACANT, OPEN or HELD (R65). -/
inductive StripState where
  | vacant
  | opened
  | held
deriving DecidableEq, Repr

/-- One record of a strip's span table (R31, R58). `residue` holds C of each track, present for a VALID span. -/
structure SpanRecord where
  validity : Validity
  backtrack : Bool
  first : Nat
  frames : Nat
  residue : Option (Quad (BitVec 16))
  means : Oct Nat
  overload : Oct Nat
  dropped : Oct Nat
  cells : Nat
  quality : Oct Nat
  timebase : Option (PerSide SpanTimebase)
deriving DecidableEq, Repr

/-- The strip descriptor (R67). Strip index, owner and frames stored stand beside it in the strip. -/
structure Descriptor where
  timebase : TimebaseSettings
  tTach : Nat
  capture : CaptureSettings
  overrun : Bool
  ended : Bool
  previous : Option Nat
  next : Option Nat
deriving DecidableEq, Repr

/-- A strip: its state and owner (segment, pass), its records and its stored frames, frame j at place j. The number of
frames stored (R68) is the length of `frames`. The dropout map holds one byte per judged cell in cell order, bit e set
when the cell was judged dropped for element e. -/
structure Strip where
  state : StripState
  owner : Option (Nat × Nat)
  descriptor : Option Descriptor
  spans : List SpanRecord
  dropout : List Byte
  frames : List StoredFrame
deriving DecidableEq, Repr

/-- A VACANT strip. -/
def Strip.blank : Strip := ⟨.vacant, none, none, [], [], []⟩

/-- The three requesters of the store (R76). -/
inductive Requester where
  | writer
  | render
  | link
deriving DecidableEq, Repr

/-- The two readers the arbiter alternates (R77). -/
inductive Reader where
  | render
  | link
deriving DecidableEq, Repr

/-- The blocks a strip's records are written in (log 7): descriptor and span table, and the two halves of the dropout
map. -/
inductive RecordBlock where
  | table
  | dropoutLow
  | dropoutHigh
deriving DecidableEq, Repr

/-- The capture writer's burst in progress: so many frames of a strip, or a block of its records (R78). -/
inductive WriteBurst where
  | frames (strip count : Nat)
  | records (strip : Nat) (block : RecordBlock)
deriving DecidableEq, Repr

/-- The Store Controller's state (04, first table), with the capture writer and the arbiter. The write buffer holds
each frame with its strip. -/
structure Store where
  stripCount : Nat
  strips : Table Strip
  ringPointer : Nat
  keptSegments : Nat
  keptStrips : Nat
  writeBuffer : List (Nat × StoredFrame)
  recordWrites : List (Nat × RecordBlock)
  writeBurst : Option WriteBurst
  burst : Option Requester
  lastReader : Reader
deriving DecidableEq, Repr

/-! ## The tape map -/

/-- The fields an entry takes when it is finalized (R29, R82). -/
structure EntryFields where
  validity : List Validity
  complete : Bool
  quality : Quad Nat
  locked : PerSide Nat
  overrun : Bool
  backtrack : Bool
  inputLost : Bool
  exclude : Bool
deriving DecidableEq, Repr

/-- A pass entry: open while `fields` is absent, finalized after that (R82). -/
structure Entry where
  pass : Nat
  strip : Nat
  fields : Option EntryFields
deriving DecidableEq, Repr

/-- UNSEEN, OPEN, HELD or GONE (R81). -/
inductive SegState where
  | unseen
  | opened
  | held
  | gone
deriving DecidableEq, Repr

/-- A segment's rendition fields for one side (R101). -/
structure RenditionField where
  slot : Option Nat
  unrecovered : Option Nat
deriving DecidableEq, Repr

/-- A segment record (R80). `changes` counts the changes of the segment's material; the version is that count modulo
4,294,967,296 (`Segment.version`, R88), and a slot keeps the whole count, so that a version that wraps round to an old
figure makes no stale slot current again (R154, log 36). -/
structure Segment where
  state : SegState
  entries : List Entry
  wear : Nat
  hazard : Option Nat
  operatorHazard : Option Nat
  splice : Option Nat
  keep : Bool
  changes : Nat
  rendition : PerSide RenditionField
deriving DecidableEq, Repr

/-- The value every segment record has after power-on (R80). -/
def Segment.blank : Segment :=
  ⟨.unseen, [], 0, none, none, none, false, 0, ⟨⟨none, none⟩, ⟨none, none⟩⟩⟩

/-- The version that a count of changes stands for: 32 bits, wrapping (R80, R88). -/
def versionOf (changes : Nat) : BitVec 32 := BitVec.ofNat 32 changes

/-- The version of a segment (R80, R88). -/
def Segment.version (r : Segment) : BitVec 32 := versionOf r.changes

/-- The number of segments in each state (05, first table). -/
structure SegCounts where
  unseen : Nat
  opened : Nat
  held : Nat
  gone : Nat
deriving DecidableEq, Repr

/-- The Map Controller's state (05, first table). -/
structure TapeMap where
  segments : Table Segment
  session : Session
  passCounter : Nat
  tapeEndSegment : Option Nat
  counts : SegCounts
deriving DecidableEq, Repr

/-! ## Re-read requests -/

/-- The states of a live request (R106). -/
inductive RequestState where
  | queued
  | taken
  | active
deriving DecidableEq, Repr

/-- A live re-read request (R106). -/
structure Request where
  id : Nat
  first : Nat
  last : Nat
  next : Nat
  state : RequestState
deriving DecidableEq, Repr

/-- The four outcomes of a request (R119). -/
inductive RequestOutcome where
  | done
  | cancelled
  | expired
  | abandoned
deriving DecidableEq, Repr

/-- The facts a request's notices and outcome carry. -/
structure RequestFacts where
  id : Nat
  first : Nat
  last : Nat
  next : Nat
deriving DecidableEq, Repr

/-- How the transport's most recent taken request ended (R120). -/
structure LastOutcome where
  outcome : RequestOutcome
  facts : RequestFacts
deriving DecidableEq, Repr

/-- An entry of the id table (R107). -/
inductive IdState where
  | neverIssued
  | live
  | ended
deriving DecidableEq, Repr

/-- The Request Queue's state (06, first table). The take timer holds its remaining milliseconds while it runs. -/
structure Requests where
  queue : List Request
  takeTimer : Option Nat
  lastOutcome : Option LastOutcome
  ids : Table IdState
  lastId : Nat
deriving DecidableEq, Repr

/-! ## Rendering -/

/-- A queued render job (R125); `asked` is the kind ASKED. -/
structure QueuedJob where
  segment : Nat
  side : Side
  asked : Bool
deriving DecidableEq, Repr

/-- One entry of a job's candidate set with its strip and edge strips (R129). -/
structure JobEntry where
  pass : Nat
  strip : Nat
  fields : EntryFields
  lower : Option Nat
  upper : Option Nat
deriving DecidableEq, Repr

/-- What a job fixes for one span (R130, R131): the provider's pass, the applied length, the output count and the
first output sample. -/
structure JobSpan where
  provider : Option Nat
  applied : Int
  count : Nat
  first : Nat
deriving DecidableEq, Repr

/-- A source that can be read (R133): a candidate, its element, its offset, and the first frame, frame count and output
count of the span it is read in. -/
structure Voice where
  entry : JobEntry
  element : Fin 8
  quality : Nat
  offset : Int
  first : Nat
  frames : Nat
  count : Nat
deriving DecidableEq, Repr

/-- The source of a cell: mute, or a candidate at an offset (R141, R142). -/
inductive CellSource where
  | mute
  | voice (v : Voice)
deriving DecidableEq, Repr

/-- What a job keeps for each track of its side: the source of the last cell generated and the unrecovered cells. -/
structure JobTrack where
  lastSource : Option CellSource
  unrecovered : Nat
deriving DecidableEq, Repr

/-- The job in flight (07, first table). `toRead` and `blocksRead` are its read bursts still to come, `generated` the
pairs generated and not yet written, `nextSpan` the next span to generate, `bursting` whether the burst in progress is
the job's own. -/
structure Job where
  segment : Nat
  side : Side
  asked : Bool
  slot : Nat
  changes : Nat
  concealment : Concealment
  entries : List JobEntry
  lead : Nat
  spans : List JobSpan
  left : JobTrack
  right : JobTrack
  alignEdge : Nat
  toRead : List Nat
  blocksRead : Nat
  nextSpan : Nat
  generated : List (Int × Int)
  bursting : Bool
deriving DecidableEq, Repr

/-- The version of the segment fixed at the take (R128). -/
def Job.version (j : Job) : BitVec 32 := versionOf j.changes

/-- The Render Engine's state (07, first table). -/
structure Render where
  queue : List QueuedJob
  headWaiting : Bool
  job : Option Job
deriving DecidableEq, Repr

/-! ## Rendition slots -/

/-- What a slot's record takes at a take (R151). `changes` is the segment's count of changes at the take, and so the version
at take (log 36). -/
structure SlotHead where
  segment : Nat
  side : Side
  changes : Nat
  sampleCount : Nat
deriving DecidableEq, Repr

/-- The version at take (R151). -/
def SlotHead.version (h : SlotHead) : BitVec 32 := versionOf h.changes

/-- What a slot's record takes at completion, with the fetched flag (R151). -/
structure SlotReady where
  unrecovered0 : Nat
  unrecovered1 : Nat
  alignEdge : Nat
  fetched : Bool
deriving DecidableEq, Repr

/-- A rendition slot with its sample data, pairs of track 0 and track 1 in slot sample order (R151). -/
inductive Slot where
  | free
  | filling (head : SlotHead) (data : List (Int × Int))
  | ready (head : SlotHead) (result : SlotReady) (data : List (Int × Int))
deriving DecidableEq, Repr

/-- The Rendition Buffer's state (08, first table). -/
structure Slots where
  slots : Table Slot
  completion : List Nat
deriving DecidableEq, Repr

/-! ## Advisory -/

/-- The Advisory Unit's state (09, first table). -/
structure Advisory where
  effective : Nat
  scoreSegment : Option Nat
  speed : Nat
  zone : Bool
deriving DecidableEq, Repr

/-- The advisory fields of the profile (09, second table). A breakpoint is a score and a speed. -/
structure AdvisorySettings where
  ahead : Bool
  lookAhead : Nat
  points : List (Nat × Nat)
  interpolate : Bool
  hysteresis : Nat
  rise : Nat
  fall : Nat
  jump : Bool
  zone : Nat
  unseen : Nat
  spliceHazard : Nat
deriving DecidableEq, Repr

/-! ## The transport port -/

/-- The notices of the transport (R181). -/
inductive TransportNotice where
  | syncFault (slip : Int)
  | endMark (e : Int)
  | mapStale
  | requestQueued (id : Nat)
  | requestDone (r : RequestFacts)
  | requestCancelled (r : RequestFacts)
  | requestExpired (r : RequestFacts)
  | zoneEnter (segment : Option Nat) (score : Nat)
  | zoneExit (segment : Option Nat) (score : Nat)
deriving DecidableEq, Repr

/-- The snapshot STATUS returns (R177). -/
structure Snapshot where
  position : Int
  segment : Option Nat
  span : Option Nat
  sync : Sync
  session : Session
  mode : Mode
  speed : Nat
  effective : Nat
  zone : Bool
  noticeCount : Nat
  lost : Bool
  queued : Bool
  taken : Option Request
  lastOutcome : Option LastOutcome
deriving DecidableEq, Repr

/-- The content of a transport reply after its status byte (R206). -/
inductive ReplyBody where
  | empty
  | snapshot (s : Snapshot)
  | mode (m : Option Mode)
  | request (r : Option Request)
  | range (r : Option RequestFacts)
  | notice (n : Option TransportNotice) (left : Nat)
  | places (p : List (Option (Nat × Nat)))
deriving DecidableEq, Repr

/-- A transport reply. -/
structure Reply where
  status : Status
  body : ReplyBody
deriving DecidableEq, Repr

/-- The Transport Port's state (10, first table). `transaction` holds the bytes received of the transaction whose reply
is going out, `reply` that reply (R175, R207). -/
structure Port where
  transaction : Option (List Byte)
  reply : Option Reply
  fifo : List TransportNotice
  lost : Bool
  attention : Bool
deriving DecidableEq, Repr

/-! ## The archive link -/

/-- The transfer profile (11.4). -/
structure Profile where
  timebase : TimebaseSettings
  capture : CaptureSettings
  concealment : Concealment
  autoRender : Bool
  wearLimit : Nat
  takeTimeout : Nat
  advisory : AdvisorySettings
deriving DecidableEq, Repr

/-- The notices of the workstation (R195). -/
inductive WorkNotice where
  | passOpened (pass segment : Nat) (position : Int)
  | passClosed (pass : Nat) (cause : CloseCause) (lastSegment : Nat) (highWater : Int)
  | inputLost (pass : Nat) (highWater : Int)
  | passLimit
  | syncFault (slip : Int)
  | endMark (e : Int)
  | segmentGone (segment : Nat)
  | sessionChanged (session : Session) (cleared : Bool)
  | requestDone (r : RequestFacts)
  | requestCancelled (r : RequestFacts)
  | requestExpired (r : RequestFacts)
  | requestAbandoned (r : RequestFacts)
  | renderReady (slot : Nat) (head : SlotHead) (stale : Bool) (result : SlotReady)
  | renderAborted (segment : Nat) (side : Side) (cause : AbortCause)
  | restarted
deriving DecidableEq, Repr

/-- The eight link tallies (R196). -/
structure LinkTallies where
  headerCorrected : Nat
  headerLost : Nat
  truncated : Nat
  payloadFailed : Nat
  otherChannel : Nat
  unknownKind : Nat
  dropped : Nat
  noticesLost : Nat
deriving DecidableEq, Repr

/-- The items of MAP_SUMMARY (R103). -/
structure Summary where
  session : Session
  passCounter : Nat
  openPass : Option (Nat × Nat)
  tapeEndSegment : Option Nat
  counts : SegCounts
  entries : Nat
  stripCount : Nat
  keptSegments : Nat
  keptStrips : Nat
  largestSlip : Nat
  slipCount : Nat
  syncFaults : Nat
deriving DecidableEq, Repr

/-- The items of QUEUE_READ (R121). -/
structure QueueView where
  lastId : Nat
  lastOutcome : Option LastOutcome
  requests : List Request
  takeTimer : Option Nat
deriving DecidableEq, Repr

/-- One record of SLOT_READ (R159): a slot as it stands (its sample data left out), whether it is stale, its completion
rank. -/
structure SlotView where
  index : Nat
  head : Option SlotHead
  ready : Option SlotReady
  stale : Bool
  rank : Nat
deriving DecidableEq, Repr

/-- The result fields of a link response, in the order R203 and R204 give. -/
inductive Result where
  | empty
  | profile (p : Profile)
  | records (l : List (Nat × Segment))
  | version (v : BitVec 32)
  | count (n : Nat)
  | summary (s : Summary)
  | id (n : Nat)
  | queue (q : QueueView)
  | slot (k : Option Nat)
  | slots (headWaiting : Bool) (fetched : Nat) (l : List SlotView)
  | rendition (slot first count : Nat)
  | strip (i : Nat)
  | raw (strip element first count : Nat)
  | tallies (link : LinkTallies) (dropouts : Oct Nat)
deriving DecidableEq, Repr

/-- A response: the kind of the command answered, the status code, the result fields (R188). -/
structure Response where
  kind : Nat
  status : Status
  result : Result
deriving DecidableEq, Repr

/-- What a link read names (R160, R191, R192). -/
inductive ReadTarget where
  | strip (i : Nat)
  | raw (strip element first count : Nat)
  | rendition (slot first count : Nat)
deriving DecidableEq, Repr

/-- A link read in flight: its bursts completed, the data gathered, and the data of its burst in progress, captured when
that burst was granted (R191). -/
structure Read where
  target : ReadTarget
  done : Nat
  data : List Byte
  burst : Option (List Byte)
deriving DecidableEq, Repr

/-- The answer of a pending command: a response formed, with a data frame's payload for a read answered OK, or a read
still in flight (R188, R190). -/
inductive Answer where
  | formed (r : Response) (data : Option (List Byte))
  | reading (r : Read)
deriving DecidableEq, Repr

/-- A command taken and not yet fully answered. -/
structure PendingCommand where
  kind : Nat
  answer : Answer
deriving DecidableEq, Repr

/-- HUNT or FRAMED (R186). -/
inductive RxState where
  | hunt
  | framed
deriving DecidableEq, Repr

/-- A frame in reception after its accepted header: the bytes gathered of the `need` that follow the header. -/
structure RxFrame where
  channel : Nat
  kind : Nat
  field : Nat
  need : Nat
  bytes : List Byte
deriving DecidableEq, Repr

/-- The receiver: its state, the bytes of a header in reception, the frame in reception. -/
structure Receiver where
  state : RxState
  held : List Byte
  frame : Option RxFrame
deriving DecidableEq, Repr

/-- A frame on its way out: channel, kind and payload. -/
structure OutFrame where
  channel : Nat
  kind : Nat
  payload : List Byte
deriving DecidableEq, Repr

/-- What the frame being sent is: a notice, the head's response, the head's data frame, or a frame whose command a
RESTART removed (R189, R197). -/
inductive TxRole where
  | notice
  | response
  | data
  | orphan
deriving DecidableEq, Repr

/-- The frame the transmitter is sending. -/
structure Transmission where
  role : TxRole
  frame : OutFrame
deriving DecidableEq, Repr

/-- The Archive Link's state (11, first table). The transmitter is idle while `tx` is absent. -/
structure Link where
  rx : Receiver
  commands : List PendingCommand
  tx : Option Transmission
  notices : List WorkNotice
  lostNotices : Nat
  profile : Profile
  tallies : LinkTallies
deriving DecidableEq, Repr

/-! ## The whole part -/

/-- The state of the TD-4. `free` counts the choices the reference leaves open that have been made; it and `pending`, the
queue of commands waiting, are the model's own. -/
structure State where
  pins : Pins
  motion : Motion
  capture : Capture
  timebase : Option Timebase
  store : Store
  map : TapeMap
  requests : Requests
  render : Render
  slots : Slots
  advisory : Advisory
  port : Port
  link : Link
  free : Nat
  pending : List Instr
deriving DecidableEq, Repr

/-- Why the part could stop with a fault. There is no reason: the reference describes no fault of the TD-4, and no
command has one. -/
inductive Fault where
deriving DecidableEq, Repr

/-- Why a command could be refused. -/
inductive Refusal where
  /-- Raised only by an arm of `exec` whose command has no meaning yet; safe, since the machine stops. No arm raises it. -/
  | notModelled (mnemonic : String)
deriving DecidableEq, Repr

/-! ## Reset -/

/-- The default transfer profile (11.4, 9). -/
def Profile.default : Profile where
  timebase := ⟨47625, 105000, 61, 1310720, 1310720, true, ⟨.resLeft, .resLeft⟩⟩
  capture := ⟨Oct.fill true, 64, 524288, 4096⟩
  concealment := .holdBest
  autoRender := true
  wearLimit := 6
  takeTimeout := 120
  advisory := ⟨true, 3, [(0, 1000), (64, 1000), (128, 750), (192, 550), (255, 400)], true, 16, 20, 100, true, 160, 128, 224⟩

/-- The strip count the strap selects (R64). -/
def stripCountOf : Strap → Nat
  | .tiedLow => 256
  | .openPin => 512
  | .tiedHigh => 1024

/-- The part after power-on or the reset pin, with the strap and the mark sensor as they stand (R18, R44, R61, R79, R105,
R124, R150, R163, R174, R185, R198). -/
def State.powerOn (strap : Strap) (sensor : Level) : State where
  pins := ⟨strap, sensor⟩
  motion := ⟨0, .unsynced, .unloaded, none, none, sensor, 16, none, 0, 0, 0, none, none⟩
  capture :=
    { pass := none, settings := Profile.default.capture, frameCount := 0, overrun := false, span := none, closing := none
      cell := none, reference := Quad.fill 524288, lastResidue := none, inputTimer := false, inputWait := true
      limitNoticed := false, tallies := Oct.fill 0 }
  timebase := none
  store :=
    { stripCount := stripCountOf strap, strips := [], ringPointer := 0, keptSegments := 0, keptStrips := 0, writeBuffer := []
      recordWrites := [], writeBurst := none, burst := none, lastReader := .render }
  map := ⟨[], .vacant, 0, none, ⟨4096, 0, 0, 0⟩⟩
  requests := ⟨[], none, none, [], 0⟩
  render := ⟨[], false, none⟩
  slots := ⟨[], []⟩
  advisory := ⟨128, none, 750, false⟩
  port := ⟨none, none, [], false, false⟩
  link := ⟨⟨.hunt, [], none⟩, [], none, [], 0, Profile.default, ⟨0, 0, 0, 0, 0, 0, 0, 0⟩⟩
  free := 0
  pending := []

/-- The machine right after reset: the strap tied low and opaque tape under the sensor (DESIGN CHOICE, log 2: the
reference leaves both pins to the board), no command waiting. -/
def State.reset : State := State.powerOn .tiedLow .opaqueTape

end Sys2Proof.Machine
end

