-- ==== Sys2Proof/Machine/Clock.lean ====
section
/-! DEFINITION. The passing of time while no command waits (log 3). -/

namespace Sys2Proof.Machine

/-- The take timer after a millisecond: a running one has that much less remaining, not below 0 (R115, R121). -/
def Requests.tick (r : Requests) : Requests := { r with takeTimer := r.takeTimer.map (· - 1) }

/-- Select released after a reply: the transaction ends (R175). -/
def Port.released (p : Port) : Port := { p with transaction := none, reply := none }

/-- One millisecond: the take timer runs, and a transaction whose reply stood is over (log 28). The expiry of the take
timer, and those of the input timer and the gap timer, are events of the operations table. -/
def State.millisecond (s : State) : State := { s with requests := s.requests.tick, port := s.port.released }

end Sys2Proof.Machine
end

