-- ==== Sys2Proof/Machine/Table.lean ====
section
/-! DEFINITION. Tables indexed by number, in one canonical form: the entries rise strictly in index, and none equals the
value `d` that an unlisted index has. The tape map, the strip table, the slots and the id table are such tables. -/

namespace Sys2Proof.Machine

/-- The value at index `k`: the entry listed, or `d`. -/
def Table.get {α : Type} (d : α) : Table α → Nat → α
  | [], _ => d
  | (i, a) :: t, k => if i = k then a else Table.get d t k

/-- The table with index `k` given the value `a`. Giving it the value `d` removes the entry. -/
def Table.put {α : Type} [DecidableEq α] (d : α) : Table α → Nat → α → Table α
  | [], k, a => if a = d then [] else [(k, a)]
  | (i, b) :: t, k, a =>
    if k < i then (if a = d then (i, b) :: t else (k, a) :: (i, b) :: t)
    else if k = i then (if a = d then t else (k, a) :: t)
    else (i, b) :: Table.put d t k a

/-- Whether the canonical form holds with every index at least `lo`. -/
def Table.wfFrom {α : Type} [DecidableEq α] (d : α) : Nat → Table α → Bool
  | _, [] => true
  | lo, (i, a) :: t => decide (lo ≤ i) && decide (a ≠ d) && Table.wfFrom d (i + 1) t

/-- Whether the table is in canonical form. -/
def Table.wf {α : Type} [DecidableEq α] (d : α) (t : Table α) : Bool := Table.wfFrom d 0 t

/-- The table whose value is `f k` for `n` indices from `lo`, and `d` elsewhere. -/
def Table.tabulate {α : Type} [DecidableEq α] (d : α) (f : Nat → α) : Nat → Nat → Table α
  | _, 0 => []
  | lo, n + 1 =>
    if f lo = d then Table.tabulate d f (lo + 1) n else (lo, f lo) :: Table.tabulate d f (lo + 1) n

/-- The table with `f` applied to every value, for an `f` that leaves `d` as it is. -/
def Table.mapValues {α : Type} [DecidableEq α] (d : α) (f : α → α) : Table α → Table α
  | [] => []
  | (i, a) :: t => if f a = d then Table.mapValues d f t else (i, f a) :: Table.mapValues d f t

/-- The number of listed entries that satisfy `p`. -/
def Table.count {α : Type} (p : α → Bool) (t : Table α) : Nat := (t.filter fun e => p e.2).length

end Sys2Proof.Machine
end

