-- ==== Sys2Proof/Machine/Ops.lean ====
section
/-! DEFINITION. The shared operations: numbers and bytes, one update per block of the state, access to the tables. -/

namespace Sys2Proof.Machine

/-! ## Numbers -/

/-- One more, stopping at `cap`. -/
def satInc (n cap : Nat) : Nat := min (n + 1) cap

/-- `x` kept within `lo` to `hi`. -/
def clamp (lo hi x : Int) : Int := max lo (min hi x)

/-- `n / d` rounded to the nearest integer, halves away from zero, for positive `d` (00_scope section 8). -/
def roundDiv (n d : Int) : Int := Int.sign n * ((2 * (n.natAbs : Int) + d) / (2 * d))

/-- `n` in `w` bytes, least significant first (R199). -/
def le : Nat → Nat → List Byte
  | 0, _ => []
  | w + 1, n => BitVec.ofNat 8 n :: le w (n / 256)

/-- A signed number in `w` bytes, two's complement (R199). -/
def leInt (w : Nat) (x : Int) : List Byte := le w (x % (256 ^ w : Nat)).toNat

/-- A number that may be absent, sent as all ones when it is (R199). -/
def leOpt (w : Nat) : Option Nat → List Byte
  | some n => le w n
  | none => List.replicate w 255#8

/-- The number whose bytes, least significant first, are given (R199). -/
def ofLe : List Byte → Nat
  | [] => 0
  | b :: bs => b.toNat + 256 * ofLe bs

/-- The `w`-byte number at byte `at` of a byte string. -/
def field (bs : List Byte) (pos w : Nat) : Nat := ofLe ((bs.drop pos).take w)

/-- The bits of a byte as the archive link carries it, least significant first (R199). -/
def lsbFirst (b : Byte) : List Bool := (List.range 8).map b.getLsbD

/-- The bits of a byte as the transport port and the element frame input carry it, most significant first (R199). -/
def msbFirst (b : Byte) : List Bool := (List.range 8).map b.getMsbD

/-- The byte of eight bits that came least significant first. -/
def ofLsbFirst (l : List Bool) : Byte := BitVec.ofNat 8 (l.foldr (fun b n => 2 * n + b.toNat) 0)

/-- The byte of eight bits that came most significant first. -/
def ofMsbFirst (l : List Bool) : Byte := BitVec.ofNat 8 (l.foldl (fun n b => 2 * n + b.toNat) 0)

/-- The bytes of a bit string, each of its eights read by `f`; a last one that is incomplete makes no byte. -/
def bytesOf (f : List Bool → Byte) : List Bool → List Byte
  | a :: b :: c :: d :: e :: g :: h :: i :: l => f [a, b, c, d, e, g, h, i] :: bytesOf f l
  | _ => []

/-- The bytes that arrive on the archive link as bits (R199). -/
def linkBytes : List Bool → List Byte := bytesOf ofLsbFirst

/-- The bytes that arrive on the transport port or the element frame input as bits (R199). -/
def serialBytes : List Bool → List Byte := bytesOf ofMsbFirst

/-- The signed number whose 24-bit two's complement is `n`. -/
def signed24 (n : Nat) : Int := if n < 8388608 then n else (n : Int) - 16777216

/-- Eight flags as a byte, bit e for element e. -/
def flagsByte (o : Oct Bool) : Byte :=
  BitVec.ofNat 8 (o.toList.foldr (fun b n => 2 * n + b.toNat) 0)

/-- The flags a byte holds, bit e for element e. -/
def byteFlags (b : Byte) : Oct Bool := Oct.ofFn fun e => b.getLsbD e.val

/-- The track an element belongs to: E(2t) and E(2t+1) lie on track t (00_scope section 5). -/
def trackOf (e : Fin 8) : Fin 4 := ⟨e.val / 2, by omega⟩

/-- The outer element of a track. -/
def outerOf (t : Fin 4) : Fin 8 := ⟨2 * t.val, by omega⟩

/-- The inner element of a track. -/
def innerOf (t : Fin 4) : Fin 8 := ⟨2 * t.val + 1, by omega⟩

/-! ## Spans and segments of a position (R2) -/

/-- Whether a position lies in the tape map. -/
def inMap (p : Int) : Bool := decide (0 ≤ p) && decide (p < Config.mapEnd)

/-- The segment a position lies in, or absent outside the map. -/
def segmentOf (p : Int) : Option Nat := if inMap p then some (p / 512).toNat else none

/-- The span index of a position within its segment, or absent outside the map. -/
def spanOf (p : Int) : Option Nat := if inMap p then some ((p / 32) % 16).toNat else none

/-! ## One update per block -/

/-- The state with the Motion Tracker's state replaced. -/
def State.setMotion (s : State) (x : Motion) : State := { s with motion := x }
/-- The state with the Capture Unit's state replaced. -/
def State.setCapture (s : State) (x : Capture) : State := { s with capture := x }
/-- The state with the Timebase Unit's state replaced. -/
def State.setTimebase (s : State) (x : Option Timebase) : State := { s with timebase := x }
/-- The state with the Store Controller's state replaced. -/
def State.setStore (s : State) (x : Store) : State := { s with store := x }
/-- The state with the Map Controller's state replaced. -/
def State.setMap (s : State) (x : TapeMap) : State := { s with map := x }
/-- The state with the Request Queue's state replaced. -/
def State.setRequests (s : State) (x : Requests) : State := { s with requests := x }
/-- The state with the Render Engine's state replaced. -/
def State.setRender (s : State) (x : Render) : State := { s with render := x }
/-- The state with the Rendition Buffer's state replaced. -/
def State.setSlots (s : State) (x : Slots) : State := { s with slots := x }
/-- The state with the Advisory Unit's state replaced. -/
def State.setAdvisory (s : State) (x : Advisory) : State := { s with advisory := x }
/-- The state with the Transport Port's state replaced. -/
def State.setPort (s : State) (x : Port) : State := { s with port := x }
/-- The state with the Archive Link's state replaced. -/
def State.setLink (s : State) (x : Link) : State := { s with link := x }
/-- The state with the sampled pins replaced. -/
def State.setPins (s : State) (x : Pins) : State := { s with pins := x }
/-- The state after one more free choice. -/
def State.countFree (s : State) : State := { s with free := s.free + 1 }

/-! ## Segments (R81, R88) -/

/-- The record of segment `k`. -/
def State.segment (s : State) (k : Nat) : Segment := Table.get Segment.blank s.map.segments k

/-- The state R81 gives a segment record: OPEN when an entry is open (it names the OPEN strip, R65), else HELD when the
list is not empty, else GONE or UNSEEN by the hazard. -/
def Segment.derive (r : Segment) : SegState :=
  if r.entries.any (fun e => e.fields.isNone) then .opened
  else if !r.entries.isEmpty then .held
  else if r.hazard.isSome then .gone
  else .unseen

/-- The counts with one segment fewer in a state. -/
def SegCounts.less (c : SegCounts) : SegState → SegCounts
  | .unseen => { c with unseen := c.unseen - 1 }
  | .opened => { c with opened := c.opened - 1 }
  | .held => { c with held := c.held - 1 }
  | .gone => { c with gone := c.gone - 1 }

/-- The counts with one segment more in a state. -/
def SegCounts.more (c : SegCounts) : SegState → SegCounts
  | .unseen => { c with unseen := c.unseen + 1 }
  | .opened => { c with opened := c.opened + 1 }
  | .held => { c with held := c.held + 1 }
  | .gone => { c with gone := c.gone + 1 }

/-- Replaces the record of segment `k`; its state is set again and the segment state counts follow (R81). -/
def State.setSegment (s : State) (k : Nat) (r : Segment) : State :=
  let r' := { r with state := r.derive }
  s.setMap { s.map with
    segments := Table.put Segment.blank s.map.segments k r'
    counts := (s.map.counts.less (s.segment k).state).more r'.state }

/-- Applies `f` to the record of segment `k`. -/
def State.modSegment (s : State) (k : Nat) (f : Segment → Segment) : State := s.setSegment k (f (s.segment k))

/-- The record with its version increased by 1, wrapping (R88). -/
def Segment.bump (r : Segment) : Segment := { r with changes := r.changes + 1 }

/-- Applies `f` to `n` segments from `first`. -/
def State.modSegments (s : State) (f : Segment → Segment) : Nat → Nat → State
  | _, 0 => s
  | first, n + 1 => State.modSegments (s.modSegment first f) f (first + 1) n

/-- Whether segment `k` lies beyond the tape end: a tape end is confirmed and 512k is at or above it (R94). -/
def State.beyondTapeEnd (s : State) (k : Nat) : Bool :=
  match s.motion.tapeEnd with
  | some e => decide (e ≤ 512 * (k : Int))
  | none => false

/-- The advised score of segment `k` (R90). -/
def State.advisedScore (s : State) (k : Nat) : Nat :=
  let r := s.segment k
  let p := s.link.profile.advisory
  match r.operatorHazard with
  | some h => h
  | none =>
    let base := r.hazard.getD p.unseen
    if r.splice.isSome then max base p.spliceHazard else base

/-! ## Strips (R65, R68) -/

/-- The record of strip `i`. -/
def State.strip (s : State) (i : Nat) : Strip := Table.get Strip.blank s.store.strips i

/-- Replaces the record of strip `i`. -/
def State.setStrip (s : State) (i : Nat) (x : Strip) : State :=
  s.setStore { s.store with strips := Table.put Strip.blank s.store.strips i x }

/-- Applies `f` to strip `i` unless it is VACANT: the records of a VACANT strip are of no meaning (R67). -/
def State.modStrip (s : State) (i : Nat) (f : Strip → Strip) : State :=
  if (s.strip i).state = .vacant then s else s.setStrip i (f (s.strip i))

/-- Applies `f` to the descriptor of strip `i`. -/
def State.modDescriptor (s : State) (i : Nat) (f : Descriptor → Descriptor) : State :=
  s.modStrip i fun x => { x with descriptor := x.descriptor.map f }

/-- Whether the strip's Ended is yes. -/
def Strip.isEnded (x : Strip) : Bool := (x.descriptor.map (·.ended)).getD false

/-- Whether the strip's overrun is set. -/
def Strip.isOverrun (x : Strip) : Bool := (x.descriptor.map (·.overrun)).getD false

/-- Whether a reader may read strip `i` now: it has not ended, or its Ended is yes (R78). -/
def State.readable (s : State) (i : Nat) : Bool :=
  let x := s.strip i
  x.state = .opened || (x.state = .held && x.isEnded)

/-- The neighbour a strip's descriptor names, if it is still the same pass's strip of segment `g` (R68). -/
def State.neighbourAt (s : State) (pass : Nat) (g : Int) : Option Nat → Option Nat
  | some n =>
    let x := s.strip n
    if x.state ≠ .vacant ∧ x.owner.any (fun o => o.2 = pass ∧ (o.1 : Int) = g) then some n else none
  | none => none

/-- The neighbour below strip `i` (R68). -/
def State.neighbourBelow (s : State) (i : Nat) : Option Nat :=
  match (s.strip i).owner with
  | some (g, p) => s.neighbourAt p ((g : Int) - 1) ((s.strip i).descriptor.bind (·.previous))
  | none => none

/-- The neighbour above strip `i` (R68). -/
def State.neighbourAbove (s : State) (i : Nat) : Option Nat :=
  match (s.strip i).owner with
  | some (g, p) => s.neighbourAt p ((g : Int) + 1) ((s.strip i).descriptor.bind (·.next))
  | none => none

/-- Whether a record write of the block already waits. -/
def Store.waits (x : Store) (i : Nat) (b : RecordBlock) : Bool := x.recordWrites.any fun w => w.1 = i ∧ w.2 = b

/-- Asks the capture writer to write a block of a strip's records (R78). -/
def State.requestRecord (s : State) (i : Nat) (b : RecordBlock) : State :=
  if s.store.waits i b then s
  else s.setStore { s.store with recordWrites := s.store.recordWrites ++ [(i, b)] }

/-! ## Slots -/

/-- Slot `k`. -/
def State.slot (s : State) (k : Nat) : Slot := Table.get Slot.free s.slots.slots k

/-- Replaces slot `k`. -/
def State.setSlot (s : State) (k : Nat) (x : Slot) : State :=
  s.setSlots { s.slots with slots := Table.put Slot.free s.slots.slots k x }

/-! ## Notices -/

/-- Posts a notice to the transport (R181, R183): it joins the FIFO and the attention line is raised, or it meets a full
FIFO, is discarded and sets the lost flag. -/
def State.postTransport (s : State) (n : TransportNotice) : State :=
  if s.port.fifo.length < Config.fifoMax then
    s.setPort { s.port with fifo := s.port.fifo ++ [n], attention := true }
  else s.setPort { s.port with lost := true }

/-- Posts a notice to the workstation (R195): it joins the list, or meets a full list and is counted lost. -/
def State.postWork (s : State) (n : WorkNotice) : State :=
  if s.link.notices.length < Config.noticeMax then
    s.setLink { s.link with notices := s.link.notices ++ [n] }
  else
    s.setLink { s.link with
      lostNotices := satInc s.link.lostNotices Config.countMax
      tallies := { s.link.tallies with noticesLost := satInc s.link.tallies.noticesLost Config.countMax } }

/-! ## Predicates on the state -/

/-- Whether the pass state is CAPTURING. -/
def State.capturing (s : State) : Bool := s.capture.pass.isSome

/-- Whether the declared mode is PLAY or REVERSE_PLAY. -/
def Mode.playing : Mode → Bool
  | .play => true
  | .reversePlay => true
  | _ => false

/-- The direction of motion of R3. -/
def State.direction (s : State) : Dir :=
  match s.motion.mode with
  | .play => .forward
  | .windForward => .forward
  | .reversePlay => .reverse
  | .windReverse => .reverse
  | .stop => s.motion.lastDir.getD .forward
  | .unloaded => .forward

end Sys2Proof.Machine
end

