-- ==== Sys2Proof/Machine/Operands.lean ====
section
/-! DEFINITION. Reading what arrives: the element frame (12.1), the modes and sides (R206, R199), and the profile image
(R203) with the tests of R193. -/

namespace Sys2Proof.Machine

/-- The element frame the bytes since a frame strobe make: complete at its 33rd byte, later bytes ignored; none when the
next strobe came first (R200). DESIGN CHOICE (log 41): R199 gives the byte order of a multi-byte field for both ports and not
for the element frame input. Here the 3-byte samples and the 2-byte residue counts of a frame come least significant byte
first, as on the ports. -/
def readElementFrame (bs : List Byte) : Option ElementFrame :=
  if bs.length < 33 then none
  else some
    { samples := Oct.ofFn fun e => signed24 (field bs (3 * e.val) 3)
      overload := bs.getD 24 0#8
      residue := Quad.ofFn fun t => BitVec.ofNat 16 (field bs (25 + 2 * t.val) 2) }

/-- The motion mode a MOTION argument names (R206), or none outside 0 to 5. -/
def readMode : Nat → Option Mode
  | 0 => some .unloaded
  | 1 => some .stop
  | 2 => some .play
  | 3 => some .reversePlay
  | 4 => some .windForward
  | 5 => some .windReverse
  | _ => none

/-- The side an argument names (R199), or none for neither. -/
def readSide : Nat → Option Side
  | 0 => some .A
  | 1 => some .B
  | _ => none

/-- The timebase source of a code (R203), or none for the code 3. -/
def readSource : Nat → Option Source
  | 0 => some .tach
  | 1 => some .resLeft
  | 2 => some .resRight
  | _ => none

/-- Whether scores ascend strictly, speeds do not increase, and both lie in their ranges (R168). -/
def validPoints : List (Nat × Nat) → Bool
  | [] => true
  | [(x, v)] => decide (x ≤ 255) && decide (400 ≤ v) && decide (v ≤ 1000)
  | (x, v) :: (y, w) :: ps =>
    decide (x ≤ 255) && decide (400 ≤ v) && decide (v ≤ 1000) && decide (x < y) && decide (w ≤ v) &&
      validPoints ((y, w) :: ps)

/-- Whether a number lies in a range. -/
def within (lo hi n : Nat) : Bool := decide (lo ≤ n) && decide (n ≤ hi)

/-- Whether every track has an enabled element (R21). -/
def everyTrackEnabled (o : Oct Bool) : Bool := (o.e0 || o.e1) && (o.e2 || o.e3) && (o.e4 || o.e5) && (o.e6 || o.e7)

/-- Whether the timebase settings lie in their ranges (11.4). -/
def TimebaseSettings.valid (t : TimebaseSettings) : Bool :=
  within 30000 100000 t.speed && within 60000 150000 t.bias && within 8 128 t.window &&
    within 1 16777215 t.slewUp && within 1 16777215 t.slewDown

/-- Whether the capture settings lie in their ranges (11.4, R21, R193). -/
def CaptureSettings.valid (c : CaptureSettings) : Bool :=
  everyTrackEnabled c.enables && within 1 255 c.dropThreshold && within 1 8388607 c.levelFloor &&
    within c.levelFloor 8388607 c.initialLevel

/-- Whether the advisory settings lie in their ranges, with a valid breakpoint table (9, R168). -/
def AdvisorySettings.valid (a : AdvisorySettings) : Bool :=
  within 1 8 a.lookAhead && decide (a.points.length = 5) && validPoints a.points && within 0 64 a.hysteresis &&
    within 1 600 a.rise && within 1 600 a.fall && within 0 255 a.zone && within 0 255 a.unseen && within 0 255 a.spliceHazard

/-- Whether a profile passes the test of R193. -/
def Profile.valid (p : Profile) : Bool :=
  p.timebase.valid && p.capture.valid && within 1 254 p.wearLimit && within 1 600 p.takeTimeout && p.advisory.valid

/-- The profile a 52-byte image spells, its ranges not yet tested; none for a source code of 3 or a set bit that the
image does not use (R203). -/
def parseProfile (b : List Byte) : Option Profile :=
  let sources := field b 8 1
  let switches := field b 16 1
  match readSource (sources % 4), readSource (sources / 4) with
  | some sa, some sb =>
    if switches < 64 then
      some
        { timebase :=
            { speed := field b 0 4, bias := field b 4 4, window := field b 9 1, slewUp := field b 10 3
              slewDown := field b 13 3, jump := switches.testBit 0, source := ⟨sa, sb⟩ }
          capture :=
            { enables := byteFlags (b.getD 17 0#8), dropThreshold := field b 18 1, initialLevel := field b 22 3
              levelFloor := field b 19 3 }
          concealment := if switches.testBit 1 then .mute else .holdBest
          autoRender := switches.testBit 2
          wearLimit := field b 25 1
          takeTimeout := field b 26 2
          advisory :=
            { ahead := switches.testBit 5, lookAhead := field b 28 1
              points := (List.range 5).map fun i => (field b (29 + 3 * i) 1, field b (30 + 3 * i) 2)
              interpolate := switches.testBit 3, hysteresis := field b 44 1, rise := field b 45 2, fall := field b 47 2
              jump := switches.testBit 4, zone := field b 49 1, unseen := field b 50 1, spliceHazard := field b 51 1 } }
    else none
  | _, _ => none

/-- The profile of an image that passes every test of R193, or none. -/
def readProfile (b : List Byte) : Option Profile :=
  if b.length = 52 then
    match parseProfile b with
    | some p => if p.valid then some p else none
    | none => none
  else none

/-- The code of a timebase source (R203). -/
def Source.code : Source → Nat
  | .tach => 0
  | .resLeft => 1
  | .resRight => 2

/-- The sources byte: side A in bits 1 to 0, side B in bits 3 to 2 (R203). -/
def sourcesByte (p : PerSide Source) : Nat := p.a.code + 4 * p.b.code

/-- The switches byte of the profile image (R203). -/
def Profile.switches (p : Profile) : Nat :=
  p.timebase.jump.toNat + 2 * (decide (p.concealment = .mute)).toNat + 4 * p.autoRender.toNat +
    8 * p.advisory.interpolate.toNat + 16 * p.advisory.jump.toNat + 32 * p.advisory.ahead.toNat

/-- The 52-byte image of a profile (R203). -/
def Profile.image (p : Profile) : List Byte :=
  le 4 p.timebase.speed ++ le 4 p.timebase.bias ++ le 1 (sourcesByte p.timebase.source) ++ le 1 p.timebase.window ++
    le 3 p.timebase.slewUp ++ le 3 p.timebase.slewDown ++ le 1 p.switches ++ [flagsByte p.capture.enables] ++
    le 1 p.capture.dropThreshold ++ le 3 p.capture.levelFloor ++ le 3 p.capture.initialLevel ++ le 1 p.wearLimit ++
    le 2 p.takeTimeout ++ le 1 p.advisory.lookAhead ++ p.advisory.points.flatMap (fun q => le 1 q.1 ++ le 2 q.2) ++
    le 1 p.advisory.hysteresis ++ le 2 p.advisory.rise ++ le 2 p.advisory.fall ++ le 1 p.advisory.zone ++
    le 1 p.advisory.unseen ++ le 1 p.advisory.spliceHazard

end Sys2Proof.Machine
end

