-- ==== Sys2Proof/Machine/Wire.lean ====
section
/-! DEFINITION. The bytes the part sends (12): codes, replies of the transport port, responses, notices, records and data
of the archive link, the header check and the CRC. -/

namespace Sys2Proof.Machine

/-! ## Codes -/

/-- The status codes (R203). -/
def Status.code : Status → Nat
  | .ok => 0
  | .busy => 1
  | .range => 2
  | .full => 3
  | .worn => 4
  | .duplicate => 5
  | .none => 6
  | .notHeld => 7
  | .evicted => 8
  | .keepLimit => 9
  | .badProfile => 10
  | .state => 11
  | .tooLate => 12
  | .unknown => 13
  | .crcError => 14

/-- The mode codes (R206). -/
def Mode.code : Mode → Nat
  | .unloaded => 0
  | .stop => 1
  | .play => 2
  | .reversePlay => 3
  | .windForward => 4
  | .windReverse => 5

/-- The session codes (R206). -/
def Session.code : Session → Nat
  | .vacant => 0
  | .armed => 1
  | .detached => 2
  | .stale => 3

/-- The request state codes (R206). -/
def RequestState.code : RequestState → Nat
  | .queued => 0
  | .taken => 1
  | .active => 2

/-- The outcome codes (R206). -/
def RequestOutcome.code : RequestOutcome → Nat
  | .done => 0
  | .cancelled => 1
  | .expired => 2
  | .abandoned => 3

/-- The side codes (R199). -/
def sideCode : Side → Nat
  | .A => 0
  | .B => 1

/-- The segment state codes (R204). -/
def SegState.code : SegState → Nat
  | .unseen => 0
  | .opened => 1
  | .held => 2
  | .gone => 3

/-- The validity codes (R204). -/
def Validity.code : Validity → Nat
  | .valid => 0
  | .overrun => 1
  | .cut => 2
  | .part => 3
  | .empty => 4
  | .unreached => 5

/-- The codes of a close's cause (R203). -/
def CloseCause.code : CloseCause → Nat
  | .motion => 0
  | .restart => 1
  | .mapEdge => 2
  | .endMark => 3
  | .inputLost => 4

/-- The codes of an abort's cause (R203). -/
def AbortCause.code : AbortCause → Nat
  | .notHeld => 0
  | .evicted => 1
  | .newTape => 2

/-- The lock state codes (R204). -/
def LockState.code : LockState → Nat
  | .unlocked => 0
  | .locked => 1
  | .tach => 2

/-! ## Transport replies (R206, R207) -/

/-- Id, first, last and next. -/
def RequestFacts.bytes (f : RequestFacts) : List Byte := le 1 f.id ++ le 2 f.first ++ le 2 f.last ++ le 2 f.next

/-- A taken request with its state, or all zero when absent. -/
def requestBytes : Option Request → List Byte
  | some r => le 1 r.id ++ le 2 r.first ++ le 2 r.last ++ le 2 r.next ++ le 1 r.state.code
  | none => List.replicate 8 0#8

/-- The last outcome, or all zero when absent. -/
def outcomeBytes : Option LastOutcome → List Byte
  | some o =>
    le 1 o.facts.id ++ le 1 o.outcome.code ++ le 2 o.facts.first ++ le 2 o.facts.last ++ le 2 o.facts.next
  | none => List.replicate 8 0#8

/-- The flags byte of STATUS. -/
def Snapshot.flags (x : Snapshot) : Nat :=
  (decide (x.sync = .synced)).toNat + 2 * x.zone.toNat + 4 * x.lost.toNat + 8 * x.queued.toNat

/-- The snapshot as STATUS sends it. -/
def Snapshot.bytes (x : Snapshot) : List Byte :=
  leInt 3 x.position ++ leOpt 2 x.segment ++ leOpt 1 x.span ++ le 1 x.flags ++ le 1 x.session.code ++ le 1 x.mode.code ++
    le 2 x.speed ++ le 1 x.effective ++ le 1 x.noticeCount ++ requestBytes x.taken ++ outcomeBytes x.lastOutcome

/-- A notice's code in the NOTICE reply. -/
def TransportNotice.code : TransportNotice → Nat
  | .syncFault _ => 1
  | .endMark _ => 2
  | .mapStale => 3
  | .requestQueued _ => 4
  | .requestDone _ => 5
  | .requestCancelled _ => 6
  | .requestExpired _ => 7
  | .zoneEnter _ _ => 8
  | .zoneExit _ _ => 9

/-- A notice's argument before it is filled to 7 bytes. A slip takes the width of a position (log 12). -/
def TransportNotice.argument : TransportNotice → List Byte
  | .syncFault x => leInt 3 x
  | .endMark e => leInt 3 e
  | .mapStale => []
  | .requestQueued id => le 1 id
  | .requestDone f => f.bytes
  | .requestCancelled f => f.bytes
  | .requestExpired f => f.bytes
  | .zoneEnter g x => leOpt 2 g ++ le 1 x
  | .zoneExit g x => leOpt 2 g ++ le 1 x

/-- A byte string filled with zeros to `w` bytes. -/
def padTo (w : Nat) (bs : List Byte) : List Byte := bs ++ List.replicate (w - bs.length) 0#8

/-- One place of the AHEAD reply. -/
def placeBytes : Option (Nat × Nat) → List Byte
  | some (g, x) => le 2 g ++ le 1 x
  | none => List.replicate 3 255#8

/-- The bytes of a reply body. -/
def ReplyBody.bytes : ReplyBody → List Byte
  | .empty => []
  | .snapshot x => x.bytes
  | .mode m => le 1 ((m.map Mode.code).getD 0)
  | .request r => requestBytes r
  | .range f => match f with
    | some f => le 2 f.first ++ le 2 f.last ++ le 2 f.next
    | none => List.replicate 6 0#8
  | .notice n left => match n with
    | some n => le 1 n.code ++ le 1 left ++ padTo 7 n.argument
    | none => List.replicate 9 0#8
  | .places l => l.flatMap placeBytes

/-- The bytes of a reply, its status byte first. -/
def Reply.bytes (r : Reply) : List Byte := le 1 r.status.code ++ r.body.bytes

/-- Byte `k` that the part shifts out in the transaction under way: 00h while the command is clocked in, then the reply,
then 00h (R207). -/
def Port.shiftOut (p : Port) (k : Nat) : Byte :=
  let received := (p.transaction.getD []).length
  if k < received then 0#8 else ((p.reply.map Reply.bytes).getD []).getD (k - received) 0#8

/-- The bits of that byte on the data line, most significant first (R199). -/
def Port.bitsOut (p : Port) (k : Nat) : List Bool := msbFirst (p.shiftOut k)

/-! ## Records (R204) -/

/-- Four-bit values packed two to a byte, the first in the low half. -/
def nibbles : List Nat → List Byte
  | a :: b :: l => BitVec.ofNat 8 (a % 16 + 16 * (b % 16)) :: nibbles l
  | [a] => [BitVec.ofNat 8 (a % 16)]
  | [] => []

/-- An entry of a MAP_READ record: an open entry carries its pass, its strip and bit 5. -/
def Entry.bytes (e : Entry) : List Byte :=
  le 2 e.pass ++ le 2 e.strip ++
    match e.fields with
    | none => List.replicate 8 0#8 ++ [32#8] ++ List.replicate 4 0#8
    | some f =>
      nibbles (f.validity.map Validity.code) ++
        le 1 (f.complete.toNat + 2 * f.overrun.toNat + 4 * f.backtrack.toNat + 8 * f.inputLost.toNat + 16 * f.exclude.toNat) ++
        nibbles f.quality.toList ++ le 1 f.locked.a ++ le 1 f.locked.b

/-- A side's rendition fields. -/
def RenditionField.bytes (f : RenditionField) : List Byte := leOpt 1 f.slot ++ leOpt 3 f.unrecovered

/-- A MAP_READ record. -/
def Segment.bytes (k : Nat) (r : Segment) : List Byte :=
  le 2 k ++ le 1 r.state.code ++ le 1 r.entries.length ++ le 1 r.wear ++ leOpt 2 r.hazard ++ leOpt 2 r.operatorHazard ++
    leOpt 2 r.splice ++ le 1 r.keep.toNat ++ le 4 r.version.toNat ++ r.rendition.a.bytes ++ r.rendition.b.bytes ++
    r.entries.flatMap Entry.bytes

/-- The descriptor of a strip, 42 bytes. -/
def Descriptor.bytes (i : Nat) (owner : Option (Nat × Nat)) (stored : Nat) (d : Descriptor) : List Byte :=
  le 2 i ++ leOpt 2 (owner.map (·.1)) ++ leOpt 2 (owner.map (·.2)) ++ le 4 d.timebase.speed ++ le 4 d.tTach ++
    le 4 d.timebase.bias ++ le 1 d.timebase.window ++ le 3 d.timebase.slewUp ++ le 3 d.timebase.slewDown ++
    le 1 (d.timebase.jump.toNat + 2 * d.overrun.toNat + 4 * d.ended.toNat) ++ le 1 (sourcesByte d.timebase.source) ++
    [flagsByte d.capture.enables] ++ le 1 d.capture.dropThreshold ++ le 3 d.capture.initialLevel ++
    le 3 d.capture.levelFloor ++ le 3 stored ++ leOpt 2 d.previous ++ leOpt 2 d.next

/-- A side's timebase fields of a span record, all ones when absent. -/
def SpanTimebase.bytes : Option SpanTimebase → List Byte
  | some t =>
    leInt 4 t.applied ++
      le 1 (t.lock.code + 4 * (match t.accepted with | some true => 0 | some false => 1 | none => 3)) ++ le 2 t.fraction
  | none => List.replicate 7 255#8

/-- A span record, 99 bytes (R204). DEDUCED (log 43): the qualities go "at 4 bits each", and R204 does not say which half of
a byte holds which. The model puts the lower element of a pair in the low half, as R204 does with span validity and track
quality. -/
def SpanRecord.bytes (r : SpanRecord) : List Byte :=
  le 1 (r.validity.code + 128 * r.backtrack.toNat) ++ le 3 r.first ++ le 3 r.frames ++
    (match r.residue with
      | some c => c.toList.flatMap fun x => le 2 x.toNat
      | none => List.replicate 8 255#8) ++
    ((List.finRange 8).flatMap fun e => le 3 (r.means.get e) ++ le 3 (r.overload.get e) ++ le 2 (r.dropped.get e)) ++
    le 2 r.cells ++ nibbles r.quality.toList ++ SpanTimebase.bytes (r.timebase.map (·.a)) ++
    SpanTimebase.bytes (r.timebase.map (·.b))

/-- Half of a dropout map, 2,048 cells from `lo`; a cell not yet judged is shown as not dropped (R191). -/
def dropoutHalf (l : List Byte) (lo : Nat) : List Byte := padTo 2048 ((l.drop lo).take 2048)

/-! ## Results of responses (R203, R204) -/

/-- The result fields of MAP_SUMMARY, 30 bytes. -/
def Summary.bytes (m : Summary) : List Byte :=
  le 1 m.session.code ++ le 2 m.passCounter ++ le 2 ((m.openPass.map (·.1)).getD 0) ++
    le 2 ((m.openPass.map (·.2)).getD 0) ++ leOpt 2 m.tapeEndSegment ++ le 2 m.counts.unseen ++ le 2 m.counts.opened ++
    le 2 m.counts.held ++ le 2 m.counts.gone ++ le 2 m.entries ++ le 2 m.stripCount ++ le 2 m.keptSegments ++
    le 2 m.keptStrips ++ le 1 m.largestSlip ++ le 2 m.slipCount ++ le 2 m.syncFaults

/-- The result fields of QUEUE_READ. -/
def QueueView.bytes (q : QueueView) : List Byte :=
  le 1 q.lastId ++ outcomeBytes q.lastOutcome ++ le 1 q.requests.length ++
    q.requests.flatMap fun r =>
      requestBytes (some r) ++ le 3 (if r.state = .taken then q.takeTimer.getD 0 else 0)

/-- A SLOT_READ record, 21 bytes: fields R159 does not return for the slot's state are 0. -/
def SlotView.bytes (v : SlotView) : List Byte :=
  le 1 v.index ++ le 1 (if v.head.isNone then 0 else if v.ready.isNone then 1 else 2) ++
    (match v.head with
      | some h => le 2 h.segment ++ le 1 (sideCode h.side) ++ le 4 h.version.toNat ++ le 3 h.sampleCount
      | none => List.replicate 10 0#8) ++
    (match v.ready with
      | some r =>
        le 1 v.stale.toNat ++ le 2 r.unrecovered0 ++ le 2 r.unrecovered1 ++ le 2 r.alignEdge ++ le 1 v.rank ++
          le 1 r.fetched.toNat
      | none => List.replicate 9 0#8)

/-- The tallies of the link in the order of the R196 table. -/
def LinkTallies.toList (t : LinkTallies) : List Nat :=
  [t.headerCorrected, t.headerLost, t.truncated, t.payloadFailed, t.otherChannel, t.unknownKind, t.dropped, t.noticesLost]

/-- The result fields of a response. -/
def Result.bytes : Result → List Byte
  | .empty => []
  | .profile p => p.image
  | .records l => l.flatMap fun x => x.2.bytes x.1
  | .version v => le 4 v.toNat
  | .count n => le 2 n
  | .summary m => m.bytes
  | .id n => le 1 n
  | .queue q => q.bytes
  | .slot k => leOpt 1 k
  | .slots w n l => le 1 w.toNat ++ le 1 n ++ l.flatMap SlotView.bytes
  | .rendition k f c => le 1 k ++ le 3 f ++ le 2 c
  | .strip i => le 2 i
  | .raw i e f c => le 2 i ++ le 1 e ++ le 3 f ++ le 2 c
  | .tallies l d => (l.toList ++ d.toList).flatMap (le 2)

/-- The frame of a response: channel 0, kind 62 (R203). -/
def Response.frame (r : Response) : OutFrame := ⟨0, 62, le 1 r.kind ++ le 1 r.status.code ++ r.result.bytes⟩

/-! ## Notices of the workstation (R203) -/

/-- A notice's code. -/
def WorkNotice.code : WorkNotice → Nat
  | .passOpened _ _ _ => 1
  | .passClosed _ _ _ _ => 2
  | .inputLost _ _ => 3
  | .passLimit => 4
  | .syncFault _ => 5
  | .endMark _ => 6
  | .segmentGone _ => 7
  | .sessionChanged _ _ => 8
  | .requestDone _ => 9
  | .requestCancelled _ => 10
  | .requestExpired _ => 11
  | .requestAbandoned _ => 12
  | .renderReady _ _ _ _ => 13
  | .renderAborted _ _ _ => 14
  | .restarted => 15

/-- A notice's arguments, in the order of R195's table. -/
def WorkNotice.argument : WorkNotice → List Byte
  | .passOpened p g x => le 2 p ++ le 2 g ++ leInt 3 x
  | .passClosed p c g x => le 2 p ++ le 1 c.code ++ le 2 g ++ leInt 3 x
  | .inputLost p x => le 2 p ++ leInt 3 x
  | .passLimit => []
  | .syncFault x => leInt 3 x
  | .endMark e => leInt 3 e
  | .segmentGone g => le 2 g
  | .sessionChanged st c => le 1 st.code ++ le 1 c.toNat
  | .requestDone f => f.bytes
  | .requestCancelled f => f.bytes
  | .requestExpired f => f.bytes
  | .requestAbandoned f => f.bytes
  | .renderReady k h stale r =>
    le 1 k ++ le 2 h.segment ++ le 1 (sideCode h.side) ++ le 1 stale.toNat ++ le 3 h.sampleCount ++ le 2 r.unrecovered0 ++
      le 2 r.unrecovered1 ++ le 2 r.alignEdge
  | .renderAborted g sd c => le 2 g ++ le 1 (sideCode sd) ++ le 1 c.code
  | .restarted => []

/-- The frame of a notice with the lost-notice count it carries: channel 0, kind 63 (R195, R203). -/
def WorkNotice.frame (n : WorkNotice) (lost : Nat) : OutFrame := ⟨0, 63, le 1 n.code ++ le 2 lost ++ n.argument⟩

/-- The kind of a read's data frame: the read's own kind where it is long, 36 for STRIP_READ (R203). -/
def dataKind (kind : Nat) : Nat := if kind = 4 then 36 else kind

/-- The data frame of a read: channel 1 (R189, R203). -/
def dataFrame (kind : Nat) (payload : List Byte) : OutFrame := ⟨1, dataKind kind, payload⟩

/-! ## Header check and CRC (R202, R203) -/

/-- The position code of header data bit `i`: the (i + 1)th integer from 1 up that is no power of two. -/
def dataCode (i : Nat) : Nat := if i = 0 then 3 else if i < 4 then i + 4 else if i < 11 then i + 5 else i + 6

/-- The XOR of the codes of the set bits among the 24 data bits of `d`. -/
def dataSyndrome (d : Nat) : Nat :=
  (List.range 24).foldl (fun acc i => if d.testBit i then acc ^^^ dataCode i else acc) 0

/-- The number of ones among bits 0 to `n` − 1. -/
def ones (d n : Nat) : Nat := ((List.range n).filter fun i => d.testBit i).length

/-- The check byte of 24 data bits: check bits 0 to 4 are the syndrome, bit 5 makes the ones even, bits 6 and 7 are 0. -/
def checkByte (d : Nat) : Nat :=
  let c := dataSyndrome d
  c + 32 * ((ones d 24 + ones c 5) % 2)

/-- The class a received header falls into. -/
inductive HeaderClass where
  | noError
  | corrected (data : Nat)
  | uncorrectable
deriving DecidableEq, Repr

/-- Classifies the 24 data bits `d` with check byte `c` (R202). -/
def classifyHeader (d c : Nat) : HeaderClass :=
  let syndrome := dataSyndrome d ^^^ (c % 32)
  let odd := (ones d 24 + ones c 6) % 2 = 1
  if 64 ≤ c then .uncorrectable
  else if syndrome = 0 then (if odd then .corrected d else .noError)
  else if odd then
    match (List.range 24).find? fun i => dataCode i = syndrome with
    | some i => .corrected (d ^^^ (2 ^ i))
    | none => if syndrome ∈ [1, 2, 4, 8, 16] then .corrected d else .uncorrectable
  else .uncorrectable

/-- One bit into the CRC register (R203). -/
def crcBit (r : BitVec 16) (bit : Bool) : BitVec 16 :=
  if bit != r.getLsbD 15 then (r <<< 1) ^^^ 0x8005#16 else r <<< 1

/-- One byte into the CRC register, least significant bit first. -/
def crcByte (r : BitVec 16) (b : Byte) : BitVec 16 :=
  (List.range 8).foldl (fun r i => crcBit r (b.getLsbD i)) r

/-- The CRC of a payload. -/
def crc (bs : List Byte) : BitVec 16 := bs.foldl crcByte 0xFFFF#16

/-- The four header bytes of a frame. -/
def headerBytes (channel kind fld : Nat) : List Byte :=
  let d := (channel * 64 + kind) + 256 * fld
  le 3 d ++ le 1 (checkByte d)

/-- A frame as it goes onto the line. All kinds the part sends are long (R201). -/
def OutFrame.bytes (f : OutFrame) : List Byte :=
  headerBytes f.channel f.kind f.payload.length ++ f.payload ++ le 2 (crc f.payload).toNat

/-- A frame bit by bit: each byte least significant bit first (R199). -/
def OutFrame.bits (f : OutFrame) : List Bool := f.bytes.flatMap lsbFirst

end Sys2Proof.Machine
end

