-- ==== Sys2Proof/Machine/SlotOps.lean ====
section
/-! DEFINITION. Link reads that end EVICTED (R71, R161, R190), and the Rendition Buffer: leaving READY, the slot choice,
current and stale (08). -/

namespace Sys2Proof.Machine

/-- The strip a read names, absent for a rendition fetch. -/
def ReadTarget.stripOf : ReadTarget → Option Nat
  | .strip i => some i
  | .raw i _ _ _ => some i
  | .rendition _ _ _ => none

/-- The slot a read names, absent for a strip read. -/
def ReadTarget.slotOf : ReadTarget → Option Nat
  | .strip _ => none
  | .raw _ _ _ _ => none
  | .rendition k _ _ => some k

/-- A pending command whose read, if it is in flight and `p` holds of what it names, is answered EVICTED with its data
discarded. -/
def PendingCommand.evict (p : ReadTarget → Bool) (c : PendingCommand) : PendingCommand :=
  match c.answer with
  | .reading r => if p r.target then { c with answer := .formed ⟨c.kind, .evicted, .empty⟩ none } else c
  | .formed _ _ => c

/-- Answers EVICTED every read in flight whose target satisfies `p` (R190). -/
def State.evictReads (s : State) (p : ReadTarget → Bool) : State :=
  s.setLink { s.link with commands := s.link.commands.map (PendingCommand.evict p) }

/-- Ends the link reads of a strip that is evicted or vacated (R71). -/
def State.evictStripReads (s : State) (i : Nat) : State := s.evictReads fun t => t.stripOf = some i

/-- Ends the rendition fetches of a slot that leaves READY (R157 step 3). -/
def State.evictSlotReads (s : State) (k : Nat) : State := s.evictReads fun t => t.slotOf = some k

/-- Makes the slot number of a segment's rendition field absent if the field names slot `k`; the unrecovered cells stay
(R101). -/
def Segment.dropSlot (r : Segment) (sd : Side) (k : Nat) : Segment :=
  if (r.rendition.get sd).slot = some k then
    { r with rendition := r.rendition.set sd { r.rendition.get sd with slot := none } }
  else r

/-- The actions of a slot that leaves READY, but for the slot-available report (R157). A slot that is not READY is left
alone. -/
def State.leaveReady (s : State) (k : Nat) : State :=
  match s.slot k with
  | .ready h _ _ =>
    let s1 := s.setSlots { s.slots with completion := s.slots.completion.filter (· ≠ k) }
    let s2 := s1.modSegment h.segment fun r => r.dropSlot h.side k
    s2.evictSlotReads k
  | .free => s
  | .filling _ _ => s

/-- Whether a slot is READY with its fetched flag set. -/
def Slot.isFetched : Slot → Bool
  | .ready _ r _ => r.fetched
  | .free => false
  | .filling _ _ => false

/-- Whether a slot is READY and holds a segment and side. -/
def Slot.holds (g : Nat) (sd : Side) : Slot → Bool
  | .ready h _ _ => h.segment = g && h.side = sd
  | .free => false
  | .filling _ _ => false

/-- Whether a slot is FREE. -/
def Slot.isFree : Slot → Bool
  | .free => true
  | .filling _ _ => false
  | .ready _ _ _ => false

/-- The slot choice of a take for a segment and side (R155): the lowest FREE slot; else of the fetched READY slots the
earliest completed; else the READY slot of the same segment and side; else none. -/
def State.chooseSlot (s : State) (g : Nat) (sd : Side) : Option Nat :=
  match (List.range Config.slotCount).find? fun k => (s.slot k).isFree with
  | some k => some k
  | none =>
    match s.slots.completion.find? fun k => (s.slot k).isFetched with
    | some k => some k
    | none => s.slots.completion.find? fun k => (s.slot k).holds g sd

/-- Whether a slot's version at take equals the present version of its segment, with no change of it in between (R154): a
stale slot is not current again when the version wraps round. -/
def State.isCurrent (s : State) (h : SlotHead) : Bool := h.changes = (s.segment h.segment).changes

/-- The READY slot that holds a segment and side, if any (R152: at most one). -/
def State.readySlot (s : State) (g : Nat) (sd : Side) : Option Nat :=
  s.slots.completion.find? fun k => (s.slot k).holds g sd

/-- The READY slot of a segment and side that is current, if any (R126). -/
def State.currentSlot (s : State) (g : Nat) (sd : Side) : Option Nat :=
  (s.readySlot g sd).bind fun k =>
    match s.slot k with
    | .ready h _ _ => if s.isCurrent h then some k else none
    | .free => none
    | .filling _ _ => none

/-- The completion rank of a slot, counted from 1 at the head of the list (R153). -/
def State.rank (s : State) (k : Nat) : Nat := s.slots.completion.idxOf k + 1

end Sys2Proof.Machine
end

