-- ==== Sys2Proof/Machine/Synthesis.lean ====
section
/-! DEFINITION. The audio of a rendition (7.3 to 7.8): candidate sets, providers and output counts, reading a candidate,
alignment, cell choice, concealment and crossfade. Functions of the strips and of what a job has fixed. -/

namespace Sys2Proof.Machine

/-- The tracks of a side as the tracks 0 and 1 of a slot, its left and right programme (R144). -/
def leftTrack : Side → Fin 4
  | .A => 0
  | .B => 3

/-- The right programme's track of a side (R144). -/
def rightTrack : Side → Fin 4
  | .A => 1
  | .B => 2

/-! ## Candidate set (R129) -/

/-- A neighbour that a job may read past an edge: one that is HELD, with `ok` of its own overrun. -/
def State.edgeStrip (s : State) (ok : Bool) : Option Nat → Option Nat
  | some n => if (s.strip n).state = .held ∧ ok then some n else none
  | none => none

/-- The lower edge strip of strip `i`: the neighbour below, if HELD with its own overrun clear. -/
def State.lowerEdge (s : State) (i : Nat) : Option Nat :=
  match s.neighbourBelow i with
  | some n => s.edgeStrip (!(s.strip n).isOverrun) (some n)
  | none => none

/-- The upper edge strip of strip `i`: the neighbour above, if HELD and the strip's own overrun is clear. -/
def State.upperEdge (s : State) (i : Nat) : Option Nat :=
  s.edgeStrip (!(s.strip i).isOverrun) (s.neighbourAbove i)

/-- One entry as a candidate set holds it: finalized and not excluded, with its edge strips; else none. -/
def State.jobEntry (s : State) (e : Entry) : Option JobEntry :=
  match e.fields with
  | some f => if f.exclude then none else some ⟨e.pass, e.strip, f, s.lowerEdge e.strip, s.upperEdge e.strip⟩
  | none => none

/-- The candidate set of a segment as it stands (R129). -/
def State.candidateSet (s : State) (g : Nat) : List JobEntry := (s.segment g).entries.filterMap s.jobEntry

/-- The strips of a candidate set: of its entries, and their edge strips present (R129). -/
def jobStrips (l : List JobEntry) : List Nat :=
  l.flatMap fun e => e.strip :: (e.lower.toList ++ e.upper.toList)

/-! ## Reference order and providers (R130, R131) -/

/-- Whether entry `a` precedes entry `b` in a side's reference order: more locked spans first, then the lower pass. -/
def ranksBefore (sd : Side) (a b : JobEntry) : Bool :=
  decide (b.fields.locked.get sd < a.fields.locked.get sd) ||
    (decide (a.fields.locked.get sd = b.fields.locked.get sd) && decide (a.pass < b.pass))

/-- Puts an entry into a list in reference order. -/
def insertRanked (sd : Side) (a : JobEntry) : List JobEntry → List JobEntry
  | [] => [a]
  | b :: l => if ranksBefore sd a b then a :: b :: l else b :: insertRanked sd a l

/-- A candidate set in reference order. -/
def rankEntries (sd : Side) (l : List JobEntry) : List JobEntry := l.foldr (insertRanked sd) []

/-- Whether span `k` of an entry is VALID. -/
def JobEntry.validSpan (e : JobEntry) (k : Nat) : Bool := e.fields.validity.getD k .unreached = .valid

/-- Span `k` of strip `i`'s span table. -/
def State.spanRecord (s : State) (i k : Nat) : Option SpanRecord := (s.strip i).spans[k]?

/-- The timebase fields stored for a side in span `k` of strip `i`. -/
def State.spanTimebase (s : State) (i k : Nat) (sd : Side) : Option SpanTimebase :=
  (s.spanRecord i k).bind fun r => r.timebase.map fun t => t.get sd

/-- The provider of span `k`: the first entry in reference order whose span `k` is VALID (R130). -/
def providerOf (ranked : List JobEntry) (k : Nat) : Option JobEntry := ranked.find? fun e => e.validSpan k

/-- The applied length of span `k`: the provider's, or the lead entry's T_tach for an absent span (R130). -/
def State.appliedLength (s : State) (ranked : List JobEntry) (sd : Side) (k : Nat) : Int :=
  let tach : Int := ((ranked.head?.bind fun e => (s.strip e.strip).descriptor).map fun d => (d.tTach : Int)).getD 0
  match providerOf ranked k with
  | some e => ((s.spanTimebase e.strip k sd).map (·.applied)).getD tach
  | none => tach

/-- The render accumulator at the start: the fraction stored in span 0 of span 0's provider, or 0 (R131). -/
def State.startFraction (s : State) (ranked : List JobEntry) (sd : Side) : Int :=
  match providerOf ranked 0 with
  | some e => (((s.spanTimebase e.strip 0 sd).map (·.fraction)).getD 0 : Nat)
  | none => 0

/-- The spans of a job from span `k`, with the accumulator and the first output sample reached (R131). -/
def State.jobSpans (s : State) (ranked : List JobEntry) (sd : Side) : Nat → Nat → Int → Nat → List JobSpan
  | 0, _, _, _ => []
  | left + 1, k, acc, first =>
    let n := s.appliedLength ranked sd k
    let sum := acc + n
    let count := (sum / 65536).toNat
    ⟨(providerOf ranked k).map (·.pass), n, count, first⟩ ::
      State.jobSpans s ranked sd left (k + 1) (sum % 65536) (first + count)

/-- All sixteen spans of a job, and by their counts its sample count (R131). -/
def State.allSpans (s : State) (ranked : List JobEntry) (sd : Side) : List JobSpan :=
  s.jobSpans ranked sd 16 0 (s.startFraction ranked sd) 0

/-- The sample count of a rendition: the sum of the output counts. -/
def sampleCount (l : List JobSpan) : Nat := (l.map (·.count)).sum

/-! ## Reading a candidate (R133 to R135) -/

/-- Where a frame is read: a strip and a frame of it. -/
structure Place where
  strip : Nat
  frame : Nat
deriving DecidableEq, Repr

/-- Where absolute frame `j` of an entry's strip is read (R135). -/
def State.place (s : State) (e : JobEntry) (j : Int) : Place :=
  let stored : Int := (s.strip e.strip).frames.length
  if j < 0 then
    match e.lower with
    | some l => ⟨l, ((((s.strip l).frames.length : Int) + j)).toNat⟩
    | none => ⟨e.strip, 0⟩
  else if j < stored then ⟨e.strip, j.toNat⟩
  else
    match e.upper with
    | some u => ⟨u, min (j - stored).toNat ((s.strip u).frames.length - 1)⟩
    | none => ⟨e.strip, (stored - 1).toNat⟩

/-- An element's sample at a place. -/
def State.sampleAt (s : State) (p : Place) (e : Fin 8) : Int :=
  (((s.strip p.strip).frames[p.frame]?).map fun f => f.samples.get e).getD 0

/-- Whether the capture cell of a place was judged dropped for an element. -/
def State.droppedAt (s : State) (p : Place) (e : Fin 8) : Bool :=
  (((s.strip p.strip).dropout[p.frame / Config.cellFrames]?).map fun b => b.getLsbD e.val).getD false

/-- The 16.16 frame position at which a voice is read for output sample `m` of its span (R133). -/
def Voice.position (v : Voice) (m : Int) : Int := ((256 * m + v.offset) * v.frames * 256) / v.count

/-- The value of a voice at output sample `m` (R134). -/
def State.voiceValue (s : State) (v : Voice) (m : Int) : Int :=
  let q := v.position m
  let i := q / 65536
  let f := q % 65536
  let x0 := s.sampleAt (s.place v.entry (v.first + i)) v.element
  let x1 := s.sampleAt (s.place v.entry (v.first + i + 1)) v.element
  clamp (-8388608) 8388607 (x0 + ((x1 - x0) * f + 32768) / 65536)

/-- A voice read at another offset. -/
def Voice.at (v : Voice) (offset : Int) : Voice := { v with offset := offset }

/-! ## Alignment (R136 to R139) -/

/-- The sum of |r − c| over the given output samples, with the candidate `c` at an offset. -/
def State.alignSum (s : State) (r c : Voice) (offset : Int) (ms : List Nat) : Nat :=
  (ms.map fun (m : Nat) => (s.voiceValue r m - s.voiceValue (c.at offset) m).natAbs).sum

/-- Whether lag `a` with sum `x` is better than lag `b` with sum `y`: the smaller sum, then the smaller magnitude, then
the negative one. -/
def betterLag (a : Int) (x : Nat) (b : Int) (y : Nat) : Bool :=
  decide (x < y) || (decide (x = y) &&
    (decide (a.natAbs < b.natAbs) || (decide (a.natAbs = b.natAbs) && decide (a < b))))

/-- The best of the lags `lo`, `lo` + 1, … under a sum. -/
def bestLag (sum : Int → Nat) (lo : Int) (count : Nat) : Int :=
  ((List.range count).foldl (fun (best : Int × Nat) (i : Nat) =>
    let l := lo + i
    let x := sum l
    if betterLag l x best.1 best.2 then (l, x) else best) (lo, sum lo)).1

/-- The output samples the coarse search sums over: the multiples of 16 below `n` (R136). -/
def coarseSamples (n : Nat) : List Nat := (List.range ((n + 15) / 16)).map (· * 16)

/-- The refinement of a fine lag in 1/256 sample from the sums on both sides (R138). -/
def parabola (before here after : Nat) : Int :=
  let den : Int := (before : Int) - 2 * here + after
  if den ≤ 0 then 0 else clamp (-128) 127 (roundDiv (128 * ((before : Int) - after)) den)

/-- The offset of a candidate against the reference, or none when it is ALIGN_EDGE (R136 to R139). -/
def State.align (s : State) (r c : Voice) : Option Int :=
  let n := r.count
  let j := bestLag (fun j => s.alignSum r c (4096 * j) (coarseSamples n)) (-256) 513
  if j = -256 ∨ j = 256 then none
  else
    let fine := fun l => s.alignSum r c (256 * l) (List.range n)
    let l := bestLag fine (16 * j - 16) 33
    if l = 16 * j - 16 ∨ l = 16 * j + 16 then some (256 * l)
    else some (256 * l + parabola (fine (l - 1)) (fine l) (fine (l + 1)))

/-! ## Candidates of a span (R132) -/

/-- The voice of an entry and element in span `k`, at offset 0; none where the element is not enabled in the strip's
descriptor or the span is not VALID. -/
def State.voiceOf (s : State) (count k : Nat) (e : JobEntry) (el : Fin 8) : Option Voice :=
  let enabled := ((s.strip e.strip).descriptor.map fun d => d.capture.enables.get el).getD false
  if e.validSpan k && enabled then
    (s.spanRecord e.strip k).map fun r => ⟨e, el, r.quality.get el, 0, r.first, r.frames, count⟩
  else none

/-- The better of the provider's enabled elements of a track: the higher quality, of equals the lower element (R132). -/
def betterVoice : Option Voice → Option Voice → Option Voice
  | some a, some b => if a.quality < b.quality then some b else some a
  | some a, none => some a
  | none, b => b

/-- The reference candidate of a track in span `k`: the provider's (R132). -/
def State.referenceVoice (s : State) (count k : Nat) (t : Fin 4) (provider : JobEntry) : Option Voice :=
  betterVoice (s.voiceOf count k provider (outerOf t)) (s.voiceOf count k provider (innerOf t))

/-- The candidates of one track in one span, with the number found ALIGN_EDGE. -/
structure Candidates where
  reference : Option Voice
  others : List Voice
  alignEdge : Nat
deriving DecidableEq, Repr

/-- Whether two voices are the same candidate: pass number and element number (R132). -/
def Voice.sameCandidate (a b : Voice) : Bool := a.entry.pass = b.entry.pass && a.element = b.element

/-- Adds one pairing to the candidates: one of quality 0 is not aligned; any other is aligned or found ALIGN_EDGE. -/
def State.addCandidate (s : State) (r : Voice) (acc : Candidates) (v : Voice) : Candidates :=
  if v.sameCandidate r then acc
  else if v.quality = 0 then { acc with others := acc.others ++ [v] }
  else
    match s.align r v with
    | some off => { acc with others := acc.others ++ [v.at off] }
    | none => { acc with alignEdge := acc.alignEdge + 1 }

/-- The candidates of track `t` in span `k`: none for an absent span (R130, R132). -/
def State.candidatesOf (s : State) (entries : List JobEntry) (provider : Option Nat) (count k : Nat) (t : Fin 4) :
    Candidates :=
  match provider.bind fun p => entries.find? fun e => e.pass = p with
  | none => ⟨none, [], 0⟩
  | some pe =>
    match s.referenceVoice count k t pe with
    | none => ⟨none, [], 0⟩
    | some r =>
      let all := entries.flatMap fun e => (s.voiceOf count k e (outerOf t)).toList ++ (s.voiceOf count k e (innerOf t)).toList
      all.foldl (s.addCandidate r) ⟨some r, [], 0⟩

/-! ## Cells (R140 to R143) -/

/-- Whether a candidate is dropped in the cell of output samples `lo` to `hi` (R140). -/
def State.voiceDropped (s : State) (v : Voice) (lo hi : Nat) : Bool :=
  if v.quality = 0 then true
  else
    let i0 := v.position lo / 65536
    let i1 := v.position hi / 65536
    (List.range ((i1 - i0).toNat + 1)).any fun (d : Nat) => s.droppedAt (s.place v.entry (v.first + i0 + d)) v.element

/-- Whether candidate `a` is chosen before candidate `b`, neither being the reference: higher quality, then the lower
pass, then the lower element (R141). -/
def chosenBefore (a b : Voice) : Bool :=
  decide (b.quality < a.quality) || (decide (a.quality = b.quality) &&
    (decide (a.entry.pass < b.entry.pass) ||
      (decide (a.entry.pass = b.entry.pass) && decide (a.element.val < b.element.val))))

/-- The first of a list in the order `chosenBefore`. -/
def firstChosen : List Voice → Option Voice
  | [] => none
  | v :: l =>
    match firstChosen l with
    | some w => if chosenBefore w v then some w else some v
    | none => some v

/-- The candidate chosen for a cell, if any is not dropped: the reference precedes others of equal quality (R141). -/
def State.chooseVoice (s : State) (c : Candidates) (lo hi : Nat) : Option Voice :=
  let best := firstChosen (c.others.filter fun v => !s.voiceDropped v lo hi)
  match c.reference with
  | some r =>
    if s.voiceDropped r lo hi then best
    else
      match best with
      | some b => if r.quality < b.quality then some b else some r
      | none => some r
  | none => best

/-- The source of a cell, and whether the cell is unrecovered (R141, R142). -/
def State.cellSource (s : State) (con : Concealment) (c : Candidates) (lo hi : Nat) : CellSource × Bool :=
  match s.chooseVoice c lo hi with
  | some v => (.voice v, false)
  | none =>
    match con, c.reference with
    | .holdBest, some r => (.voice r, true)
    | .holdBest, none => (.mute, true)
    | .mute, _ => (.mute, true)

/-- Whether two sources are the same: the same candidate at the same offset, or both mute (R143). -/
def CellSource.same : CellSource → CellSource → Bool
  | .mute, .mute => true
  | .voice a, .voice b => a.sameCandidate b && decide (a.offset = b.offset)
  | .mute, .voice _ => false
  | .voice _, .mute => false

/-- The value of a source at output sample `m` of the span it is read in; a mute source gives 0. -/
def State.sourceValue (s : State) (x : CellSource) (m : Int) : Int :=
  match x with
  | .mute => 0
  | .voice v => s.voiceValue v m

/-- Sample `j` of a crossfade from `a` to `b` (R143). -/
def crossfade (a b : Int) (j : Nat) : Int := (a * (8 - (j : Int)) + b * j + 4) / 8

/-- The output sample of the previous source that blends with output sample `m` of a cell that begins at `lo`: the same
sample inside a span, the one following its span's last in the first cell of a span (R143). -/
def fadeSample (prev : CellSource) (lo m : Nat) : Int :=
  if lo = 0 then
    match prev with
    | .voice v => (v.count : Int) + m
    | .mute => 0
  else m

/-- The samples of a cell of output samples `lo` to `lo + len` − 1 with its source, crossfaded from the previous source
where the two differ (R143). -/
def State.cellSamples (s : State) (prev : Option CellSource) (src : CellSource) (lo len : Nat) : List Int :=
  (List.range len).map fun i =>
    let b := s.sourceValue src (lo + i : Nat)
    match prev with
    | some p =>
      if p.same src then b
      else if i < Config.fadeLength then crossfade (s.sourceValue p (fadeSample p lo (lo + i))) b (i + 1)
      else b
    | none => b

/-- The cells of a span on one track from cell `c` on: their samples and what the track keeps (R140 to R143). -/
def State.cells (s : State) (con : Concealment) (cand : Candidates) (n : Nat) :
    Nat → Nat → JobTrack → List Int × JobTrack
  | 0, _, t => ([], t)
  | left + 1, c, t =>
    let lo := Config.outCell * c
    if n ≤ lo then ([], t)
    else
      let len := min Config.outCell (n - lo)
      let (src, lost) := s.cellSource con cand lo (lo + len - 1)
      let here := s.cellSamples t.lastSource src lo len
      let t' : JobTrack := ⟨some src, if lost then satInc t.unrecovered Config.countMax else t.unrecovered⟩
      let (rest, t'') := State.cells s con cand n left (c + 1) t'
      (here ++ rest, t'')

/-- One track of one span: its samples, what the track keeps, and the candidates found ALIGN_EDGE. -/
def State.spanTrack (s : State) (j : Job) (k : Nat) (span : JobSpan) (t : Fin 4) (keep : JobTrack) :
    List Int × JobTrack × Nat :=
  let cand := s.candidatesOf j.entries span.provider span.count k t
  let (samples, keep') := s.cells j.concealment cand span.count ((span.count + 31) / 32) 0 keep
  (samples, keep', cand.alignEdge)

/-- Generates the next span of a job on both tracks (R144): the pairs wait to be written. -/
def State.generateSpan (s : State) (j : Job) : Job :=
  match j.spans[j.nextSpan]? with
  | none => j
  | some span =>
    let (l, kl, el) := s.spanTrack j j.nextSpan span (leftTrack j.side) j.left
    let (r, kr, er) := s.spanTrack j j.nextSpan span (rightTrack j.side) j.right
    { j with
      left := kl, right := kr, alignEdge := min (j.alignEdge + el + er) Config.countMax
      generated := l.zip r, nextSpan := j.nextSpan + 1 }

end Sys2Proof.Machine
end

