-- ==== Sys2Proof/Machine/RenderOps.lean ====
section
/-! DEFINITION. The Render Engine's work on jobs: the queue, the take, aborts, completion, automatic jobs (07). -/

namespace Sys2Proof.Machine

/-- Ends the head job NOT_HELD: it leaves the queue, and an ASKED job is reported (R128 step 1). No head waits then
(log 17). -/
def State.endNotHeld (s : State) (j : QueuedJob) (rest : List QueuedJob) : State :=
  let s1 := s.setRender { s.render with queue := rest, headWaiting := false }
  if j.asked then s1.postWork (.renderAborted j.segment j.side .notHeld) else s1

/-- The job a take makes of a queued job, with its inputs fixed (R128 step 3, R129 to R131). -/
def State.newJob (s : State) (j : QueuedJob) (set : List JobEntry) (k : Nat) : Job :=
  let ranked := rankEntries j.side set
  { segment := j.segment, side := j.side, asked := j.asked, slot := k, changes := (s.segment j.segment).changes
    concealment := s.link.profile.concealment, entries := set, lead := (ranked.head?.map (·.pass)).getD 0
    spans := s.allSpans ranked j.side, left := ⟨none, 0⟩, right := ⟨none, 0⟩, alignEdge := 0, toRead := jobStrips set
    blocksRead := 0, nextSpan := 0, generated := [], bursting := false }

/-- Makes the take of the head job with slot `k`: a READY slot first leaves READY, then the slot is FILLING with the job's
segment, side, version and sample count (R128 step 3, R155). -/
def State.startJob (s : State) (j : QueuedJob) (rest : List QueuedJob) (set : List JobEntry) (k : Nat) : State :=
  let job := s.newJob j set k
  let s1 := (s.leaveReady k).setSlot k (.filling ⟨job.segment, job.side, job.changes, sampleCount job.spans⟩ [])
  s1.setRender { s1.render with queue := rest, headWaiting := false, job := some job }

/-- Take attempts on the jobs at the head, until one is taken, one waits or the queue is empty (R128). -/
def takeAttempts : Nat → State → State
  | 0, s => s
  | n + 1, s =>
    match s.render.job, s.render.queue with
    | some _, _ => s
    | none, [] => s
    | none, j :: rest =>
      match s.candidateSet j.segment with
      | [] => takeAttempts n (s.endNotHeld j rest)
      | e :: es =>
        match s.chooseSlot j.segment j.side with
        | none => s.setRender { s.render with headWaiting := true }
        | some k => s.startJob j rest (e :: es) k

/-- A take attempt (R128). -/
def State.attemptTake (s : State) : State := takeAttempts s.render.queue.length s

/-- The slot-available report: a take attempt while the head is waiting, otherwise nothing (R156). -/
def State.slotAvailable (s : State) : State := if s.render.headWaiting then s.attemptTake else s

/-- Ends the job in flight without a rendition: its slot returns to FREE, and an ASKED job is reported with the cause
(R146 steps 1 to 3, R148). -/
def State.abortJob (s : State) (c : AbortCause) : State :=
  match s.render.job with
  | none => s
  | some j =>
    let s1 := (s.setSlot j.slot .free).setRender { s.render with job := none }
    if j.asked then s1.postWork (.renderAborted j.segment j.side c) else s1

/-- A strip evicted or vacated aborts the job that reads it, and a take is attempted (R146). -/
def State.jobStripLost (s : State) (i : Nat) : State :=
  match s.render.job with
  | some j => if (jobStrips j.entries).contains i then (s.abortJob .evicted).attemptTake else s
  | none => s

/-- A job joins the tail; into an empty queue with no job in flight, a take is attempted at once (R126). -/
def State.joinQueue (s : State) (j : QueuedJob) : State :=
  let s1 := s.setRender { s.render with queue := s.render.queue ++ [j] }
  if s.render.queue.isEmpty && s.render.job.isNone then s1.attemptTake else s1

/-- Whether a segment holds a finalized entry that is not excluded (R126). -/
def State.hasMaterial (s : State) (g : Nat) : Bool :=
  (s.segment g).entries.any fun e => e.fields.any fun f => !f.exclude

/-- Whether a job for a segment and side is in the queue. -/
def State.queuedFor (s : State) (g : Nat) (sd : Side) : Bool :=
  s.render.queue.any fun j => j.segment = g && j.side = sd

/-- Queues an AUTO job with the tests of R127. -/
def State.queueAuto (s : State) (g : Nat) (sd : Side) : State :=
  if (s.currentSlot g sd).isSome then s
  else if s.queuedFor g sd then s
  else if !s.hasMaterial g then s
  else if Config.renderQueueMax ≤ s.render.queue.length then s
  else s.joinQueue ⟨g, sd, false⟩

/-- Queues the AUTO jobs of both sides of a segment, side A first. -/
def State.queueAutoBoth (s : State) (g : Nat) : State := (s.queueAuto g .A).queueAuto g .B

/-- Whether a segment lists a finalized entry of a pass. -/
def State.listsPass (s : State) (g pass : Nat) : Bool :=
  (s.segment g).entries.any fun e => e.pass = pass && e.fields.isSome

/-- A finalization in segment `g` queues the segment below, if the same pass finished it (R127). -/
def State.autoOnFinalized (s : State) (pass g : Nat) : State :=
  if s.link.profile.autoRender then
    match g with
    | 0 => s
    | g + 1 => if s.listsPass g pass then s.queueAutoBoth g else s
  else s

/-- A pass close queues the last segment the pass entered, if its entry is listed (R127). -/
def State.autoOnClose (s : State) (pass last : Nat) : State :=
  if s.link.profile.autoRender && s.listsPass last pass then s.queueAutoBoth last else s

/-- The sum of both tracks' unrecovered cells, saturating (R101). -/
def bothUnrecovered (j : Job) : Nat := min (j.left.unrecovered + j.right.unrecovered) Config.countMax

/-- Frees the READY slot that a completing job's rendition supersedes, if there is one (R158). -/
def State.supersede (s : State) (g : Nat) (sd : Side) : State :=
  match s.readySlot g sd with
  | some k => ((s.leaveReady k).setSlot k .free).slotAvailable
  | none => s

/-- The sample data of a FILLING slot. -/
def Slot.fillingData : Slot → List (Int × Int)
  | .filling _ d => d
  | .free => []
  | .ready _ _ _ => []

/-- Completes the job in flight (R145). -/
def State.completeJob (s : State) (j : Job) : State :=
  let s1 := s.supersede j.segment j.side
  let head : SlotHead := ⟨j.segment, j.side, j.changes, sampleCount j.spans⟩
  let result : SlotReady := ⟨j.left.unrecovered, j.right.unrecovered, j.alignEdge, false⟩
  let stale := !s1.isCurrent head
  let s2 := s1.setSlot j.slot (.ready head result (s1.slot j.slot).fillingData)
  let s3 := s2.setSlots { s2.slots with completion := s2.slots.completion ++ [j.slot] }
  let s4 := s3.modSegment j.segment fun r =>
    { r with rendition := r.rendition.set j.side ⟨some j.slot, some (bothUnrecovered j)⟩ }
  let s5 := s4.postWork (.renderReady j.slot head stale result)
  (s5.setRender { s5.render with job := none }).attemptTake

/-- The bursts that read a strip: its records, and its stored frames block by block (log 7). -/
def State.readBursts (s : State) (i : Nat) : Nat :=
  Config.recordBursts + ((s.strip i).frames.length + (Config.cellFrames - 1)) / Config.cellFrames

/-- Goes on with a job that has read all its strips and written all it has generated: the next span that has output is
generated, or the job completes (R144, R145). -/
def advanceJob : Nat → State → Job → State
  | 0, s, j => s.completeJob j
  | n + 1, s, j =>
    if j.spans.length ≤ j.nextSpan then s.completeJob j
    else
      let j' := s.generateSpan j
      if j'.generated.isEmpty then advanceJob n s j' else s.setRender { s.render with job := some j' }

/-- Sample pairs added to a FILLING slot in slot sample order: at the end for side A, before the others for side B, whose
rendition is stored reversed (R144). -/
def Slot.write (sd : Side) (l : List (Int × Int)) : Slot → Slot
  | .filling h d =>
    match sd with
    | .A => .filling h (d ++ l)
    | .B => .filling h (l.reverse ++ d)
  | .free => .free
  | .ready h r d => .ready h r d

/-- A read burst of the job in flight has completed. -/
def State.jobRead (s : State) (j : Job) (i : Nat) (rest : List Nat) : State :=
  if j.blocksRead + 1 < s.readBursts i then
    s.setRender { s.render with job := some { j with blocksRead := j.blocksRead + 1, bursting := false } }
  else
    let j' := { j with toRead := rest, blocksRead := 0, bursting := false }
    if rest.isEmpty then advanceJob 17 s j' else s.setRender { s.render with job := some j' }

/-- A write burst of the job in flight has completed. -/
def State.jobWrote (s : State) (j : Job) : State :=
  let s1 := s.setSlot j.slot ((s.slot j.slot).write j.side (j.generated.take Config.pairsPerBurst))
  let j' := { j with generated := j.generated.drop Config.pairsPerBurst, bursting := false }
  if j'.generated.isEmpty then advanceJob 17 s1 j' else s1.setRender { s1.render with job := some j' }

/-- What a completed Render Engine burst does. A burst of a job since aborted does nothing (R71, R76). -/
def State.renderBurstDone (s : State) : State :=
  match s.render.job with
  | none => s
  | some j =>
    if j.bursting then
      match j.toRead with
      | i :: rest => s.jobRead j i rest
      | [] => s.jobWrote j
    else s

/-- Whether the Render Engine holds a burst request: its next strip may be read (R78), or it has pairs to write. -/
def State.renderWants (s : State) : Bool :=
  match s.render.job with
  | none => false
  | some j =>
    match j.toRead with
    | i :: _ => !j.bursting && s.readable i
    | [] => !j.bursting && !j.generated.isEmpty

end Sys2Proof.Machine
end

