-- ==== Sys2Proof/Machine/RequestOps.lean ====
section
/-! DEFINITION. The Request Queue's shared work: ids, the wear test, activation, advance, return, the end of a request
(06). -/

namespace Sys2Proof.Machine

/-- The id table's entry for an id (R107). -/
def State.idState (s : State) (id : Nat) : IdState := Table.get IdState.neverIssued s.requests.ids id

/-- The facts a request's notices carry. -/
def Request.facts (r : Request) : RequestFacts := ⟨r.id, r.first, r.last, r.next⟩

/-- Whether a request is TAKEN or ACTIVE. -/
def Request.isTaken (r : Request) : Bool :=
  match r.state with
  | .queued => false
  | .taken => true
  | .active => true

/-- The taken request, if there is one (R106). -/
def State.takenRequest (s : State) : Option Request := s.requests.queue.find? (·.isTaken)

/-- The oldest QUEUED request, if there is one (R111). -/
def State.oldestQueued (s : State) : Option Request := s.requests.queue.find? fun r => !r.isTaken

/-- The live request an id names, if any. -/
def State.requestOf (s : State) (id : Nat) : Option Request := s.requests.queue.find? fun r => r.id = id

/-- Replaces the live request that has the same id. -/
def State.putRequest (s : State) (r : Request) : State :=
  s.setRequests { s.requests with queue := s.requests.queue.map fun x => if x.id = r.id then r else x }

/-- The take timer at its start: the take timeout of the profile loaded, in milliseconds (R115). -/
def State.takeStart (s : State) : Nat := 1000 * s.link.profile.takeTimeout

/-- Whether a live request covers a segment (R106). -/
def Request.covers (r : Request) (g : Nat) : Bool := decide (r.next ≤ g) && decide (g ≤ r.last)

/-- The number of live requests covering a segment (R106). -/
def State.pendingReads (s : State) (g : Nat) : Nat := (s.requests.queue.filter fun r => r.covers g).length

/-- Whether the wear test fails at a segment (R109). -/
def State.worn (s : State) (g : Nat) : Bool :=
  decide (s.link.profile.wearLimit < (s.segment g).wear + s.pendingReads g + 1)

/-- The id after `id`, wrapping from 255 to 1. -/
def idAfter (id : Nat) : Nat := if 255 ≤ id then 1 else id + 1

/-- The first id after `id` whose entry is not LIVE, within `n` steps (R107). -/
def State.freeId (s : State) : Nat → Nat → Nat
  | 0, id => idAfter id
  | n + 1, id => if s.idState (idAfter id) = .live then State.freeId s n (idAfter id) else idAfter id

/-- The notice an outcome posts to the workstation (R119). -/
def RequestOutcome.workNotice : RequestOutcome → RequestFacts → WorkNotice
  | .done, f => .requestDone f
  | .cancelled, f => .requestCancelled f
  | .expired, f => .requestExpired f
  | .abandoned, f => .requestAbandoned f

/-- The notice an outcome posts to the transport for a request it held, none for ABANDONED (R119). -/
def RequestOutcome.transportNotice : RequestOutcome → RequestFacts → Option TransportNotice
  | .done, f => some (.requestDone f)
  | .cancelled, f => some (.requestCancelled f)
  | .expired, f => some (.requestExpired f)
  | .abandoned, _ => none

/-- Removes a request from the queue order; its id becomes ENDED (R119 step 2). -/
def State.removeRequest (s : State) (r : Request) : State :=
  s.setRequests { s.requests with
    queue := s.requests.queue.filter fun x => x.id ≠ r.id
    ids := Table.put IdState.neverIssued s.requests.ids r.id .ended }

/-- Ends a request with an outcome (R119). -/
def State.endRequest (s : State) (r : Request) (o : RequestOutcome) : State :=
  let s1 :=
    if r.isTaken then s.setRequests { s.requests with takeTimer := none, lastOutcome := some ⟨o, r.facts⟩ } else s
  let s2 := (s1.removeRequest r).postWork (o.workNotice r.facts)
  if r.isTaken then
    match o.transportNotice r.facts with
    | some n => s2.postTransport n
    | none => s2
  else s2

/-- A segment entry of the open pass makes a TAKEN request ACTIVE when it is for its next segment (R112). -/
def State.requestEntered (s : State) (g : Nat) : State :=
  match s.takenRequest with
  | some r =>
    if r.state = .taken ∧ r.next = g then
      let s1 := s.putRequest { r with state := .active }
      s1.setRequests { s1.requests with takeTimer := none }
    else s
  | none => s

/-- A finalized entry advances the ACTIVE request when it is COMPLETE and for its next segment, and past the last segment
ends it DONE (R113). -/
def State.requestFinalized (s : State) (g : Nat) (complete : Bool) : State :=
  match s.takenRequest with
  | some r =>
    if r.state = .active ∧ r.next = g ∧ complete = true then
      let r' := { r with next := r.next + 1 }
      if r.last < r'.next then s.endRequest r' .done else s.putRequest r'
    else s
  | none => s

/-- A pass close returns an ACTIVE request to TAKEN and starts the take timer (R114). -/
def State.requestPassClosed (s : State) : State :=
  match s.takenRequest with
  | some r =>
    if r.state = .active then
      let s1 := s.putRequest { r with state := .taken }
      s1.setRequests { s1.requests with takeTimer := some s.takeStart }
    else s
  | none => s

/-- A transport RESTART returns the taken request to QUEUED at the head; the timer stops and the last outcome becomes
absent (R123). -/
def State.requestRestart (s : State) : State :=
  let q :=
    match s.takenRequest with
    | some r => { r with state := .queued } :: s.requests.queue.filter fun x => x.id ≠ r.id
    | none => s.requests.queue
  s.setRequests { s.requests with queue := q, takeTimer := none, lastOutcome := none }

/-- Ends each of a list of requests CANCELLED, in order (R124). -/
def State.cancelAll (s : State) (l : List Request) : State := l.foldl (fun s r => s.endRequest r .cancelled) s

/-- Removes each of a list of requests without a notice (R122). -/
def State.removeAll (s : State) (l : List Request) : State := l.foldl State.removeRequest s

end Sys2Proof.Machine
end

