-- ==== Sys2Proof/Machine/StoreOps.lean ====
section
/-! DEFINITION. Strips and entries: vacating, ring allocation with eviction, segment entry with the fifth-pass victim,
finalization (04, 05). -/

namespace Sys2Proof.Machine

/-- Whether a strip's owning segment is kept. -/
def State.ownerKept (s : State) (x : Strip) : Bool := x.owner.any fun o => (s.segment o.1).keep

/-- Removes the entry of a pass from a segment; the version increases by 1 (R86, R87). -/
def State.removeEntry (s : State) (g pass : Nat) : State :=
  s.modSegment g fun r => { r with entries := r.entries.filter fun e => e.pass ≠ pass }.bump

/-- Vacates a strip: VACANT, no owner, the kept-strip count one lower for a kept segment; work using it is told (R72,
R73). -/
def State.vacateStrip (s : State) (i : Nat) : State :=
  let s1 :=
    if s.ownerKept (s.strip i) then s.setStore { s.store with keptStrips := s.store.keptStrips - 1 } else s
  ((s1.setStrip i Strip.blank).evictStripReads i).jobStripLost i

/-! ## Ring allocation (R67, R69, R70) -/

/-- The `n` strip indices from `i` upwards, wrapping at the strip count. -/
def ringOrder (count i n : Nat) : List Nat := (List.range n).map fun d => (i + d) % count

/-- Whether the ring may take a strip: VACANT, or HELD with an owning segment that is not kept (R69). -/
def State.takeable (s : State) (i : Nat) : Bool :=
  let x := s.strip i
  match x.state with
  | .vacant => true
  | .opened => false
  | .held => !s.ownerKept x

/-- The strip the ring scan takes (R69). The scan always finds one; were there none, it would stay at the pointer. -/
def State.ringScan (s : State) : Nat :=
  ((ringOrder s.store.stripCount s.store.ringPointer s.store.stripCount).find? s.takeable).getD s.store.ringPointer

/-- A span record before the Capture Unit writes it (R67). -/
def SpanRecord.fresh : SpanRecord :=
  ⟨.unreached, false, 0, 0, none, Oct.fill 0, Oct.fill 0, Oct.fill 0, 0, Oct.fill 0, none⟩

/-- The timebase settings of the open pass; those of the loaded profile when no pass is open, which does not arise. -/
def State.passTimebase (s : State) : TimebaseSettings :=
  (s.timebase.map (·.settings)).getD s.link.profile.timebase

/-- A strip as it becomes OPEN (R67). -/
def State.openStrip (s : State) (g pass : Nat) (previous : Option Nat) : Strip :=
  { state := .opened, owner := some (g, pass)
    descriptor := some
      { timebase := s.passTimebase, tTach := (s.timebase.map (·.tTach)).getD 0, capture := s.capture.settings
        overrun := false, ended := false, previous := previous, next := none }
    spans := List.replicate 16 SpanRecord.fresh, dropout := [], frames := [] }

/-- Gives the eviction of a strip of a former owner to the Map Controller, the Archive Link and the Render Engine (R70,
R87). SEGMENT_GONE is posted when the segment goes GONE, unless it is the segment being entered (R81). -/
def State.evictFormer (s : State) (i entering : Nat) (owner : Nat × Nat) : State :=
  let s1 := s.removeEntry owner.1 owner.2
  let s2 :=
    if (s1.segment owner.1).state = .gone ∧ owner.1 ≠ entering then s1.postWork (.segmentGone owner.1) else s1
  (s2.evictStripReads i).jobStripLost i

/-- The strip a writer burst moves. -/
def WriteBurst.strip : WriteBurst → Nat
  | .frames i _ => i
  | .records i _ => i

/-- Allocates a strip for segment `g` of the open pass (R69): the ring moves on, the strip becomes OPEN with its
descriptor, the previous strip's next field names it, writes still waiting for its former life are dropped (log 8), a
HELD strip is evicted. Answers the strip taken. DESIGN CHOICE (log 18): R78 does not list the updates that ask for a write
burst of records. Neither the new descriptor and span table nor the next field asks for one here, nor does frames stored;
a span record, a judged cell, overrun and the end of the strip do. -/
def State.allocate (s : State) (g pass : Nat) (previous : Option Nat) : State × Nat :=
  let i := s.ringScan
  let former := s.strip i
  let s1 := s.setStore { s.store with
    ringPointer := (i + 1) % s.store.stripCount
    keptStrips := s.store.keptStrips + (s.segment g).keep.toNat
    writeBuffer := s.store.writeBuffer.filter fun w => w.1 ≠ i
    recordWrites := s.store.recordWrites.filter fun w => w.1 ≠ i
    writeBurst := s.store.writeBurst.filter fun b => b.strip ≠ i }
  let s2 := s1.setStrip i (s.openStrip g pass previous)
  let s3 :=
    match previous with
    | some p => if p = i then s2 else s2.modDescriptor p fun d => { d with next := some i }
    | none => s2
  match former.state, former.owner with
  | .held, some o => (s3.evictFormer i g o, i)
  | _, _ => (s3, i)

/-! ## Segment entry (R83, R84) -/

/-- An entry's mean quality (R82). -/
def EntryFields.mean (f : EntryFields) : Nat := f.quality.toList.sum / 4

/-- Whether entry `a` precedes entry `b` as fifth-pass victim: excluded first, then lower mean quality, then the lower
pass number (R84). An open entry, which a full list never holds, comes last. -/
def victimBefore (a b : Entry) : Bool :=
  match a.fields, b.fields with
  | some f, some h =>
    (f.exclude && !h.exclude) ||
      (decide (f.exclude = h.exclude) &&
        (decide (f.mean < h.mean) || (decide (f.mean = h.mean) && decide (a.pass < b.pass))))
  | some _, none => true
  | none, _ => false

/-- The fifth-pass victim of an entry list (R84). -/
def victimOf : List Entry → Option Entry
  | [] => none
  | e :: l =>
    match victimOf l with
    | some v => if victimBefore v e then some v else some e
    | none => some e

/-- Makes room in segment `g`: with four entries held, the victim is removed and its strip vacated (R83 step 1). -/
def State.makeRoom (s : State) (g : Nat) : State :=
  if Config.entryMax ≤ (s.segment g).entries.length then
    match victimOf (s.segment g).entries with
    | some v => (s.removeEntry g v.pass).vacateStrip v.strip
    | none => s
  else s

/-- Appends the open entry of a pass to segment `g` (R83 step 3). -/
def State.appendEntry (s : State) (g pass strip : Nat) : State :=
  s.modSegment g fun r => { r with entries := r.entries ++ [Entry.mk pass strip none] }.bump

/-- The Map Controller's and the Store Controller's part of a segment entry, given to the Request Queue (R83, R112).
Answers the strip. -/
def State.enterMap (s : State) (g pass : Nat) (previous : Option Nat) : State × Nat :=
  let (s1, i) := (s.makeRoom g).allocate g pass previous
  ((s1.appendEntry g pass i).requestEntered g, i)

/-! ## Finalization (R85, R86, R89) -/

/-- The hazard an entry gives its segment (R89). -/
def EntryFields.hazard (f : EntryFields) : Nat := 255 - 17 * (f.quality.toList.foldl min 15)

/-- The entry of a pass takes its assembled fields. -/
def finalizeEntry (pass : Nat) (f : EntryFields) (e : Entry) : Entry :=
  if e.pass = pass then { e with fields := some f } else e

/-- Takes the assembled entry of a pass in segment `g`, whose strip has ended: finalized with at least one VALID span,
removed with none (R85, R86). -/
def State.takeEntry (s : State) (g pass strip : Nat) (f : EntryFields) : State :=
  if f.validity.contains .valid then
    let s1 := s.modSegment g fun r =>
      { r with entries := r.entries.map (finalizeEntry pass f), hazard := some f.hazard }.bump
    let s2 := s1.modStrip strip fun x => { x with state := .held }
    (s2.requestFinalized g f.complete).autoOnFinalized pass g
  else (s.removeEntry g pass).vacateStrip strip

end Sys2Proof.Machine
end

