-- ==== Sys2Proof/Machine/TimebaseOps.lean ====
section
/-! DEFINITION. The Timebase Unit: tach length, residue length, lock, applied length, accumulator (03). -/

namespace Sys2Proof.Machine

/-- The tach length of a nominal speed in 16.16 samples (R46). -/
def tachLength (v : Nat) : Nat := (20132659200000 + v / 2) / v

/-- The residue length of a count at a bias frequency in 16.16 samples (R47). -/
def residueLength (c bias : Nat) : Nat := (c * 6291456000 + bias / 2) / bias

/-- Whether a residue length passes the lock window (R48). -/
def inWindow (n tTach w : Nat) : Bool := decide ((((n : Int) - tTach).natAbs) * 1024 ≤ tTach * w)

/-- The source track of a side (R45). -/
def sourceTrack : Side → Source → Option (Fin 4)
  | _, .tach => none
  | .A, .resLeft => some 0
  | .A, .resRight => some 1
  | .B, .resLeft => some 3
  | .B, .resRight => some 2

/-- A side as a pass starts it (R49). -/
def startSide (tTach : Nat) (x : Source) : SideTimebase :=
  ⟨if x = .tach then .tach else .unlocked, 0, 0, tTach, 0⟩

/-- The Timebase Unit at pass open, from the settings of the profile loaded (R45, R46, R49). -/
def startTimebase (p : TimebaseSettings) : Timebase :=
  let t := tachLength p.speed
  ⟨p, t, ⟨startSide t p.source.a, startSide t p.source.b⟩⟩

/-- The lock state and runs after a verdict, with the target (R51 to R53). -/
def lockStep (x : SideTimebase) (tTach nq : Nat) (accepted : Bool) : SideTimebase × Int :=
  match x.lock with
  | .tach => (x, tTach)
  | .unlocked =>
    if accepted then
      if 8 ≤ x.acceptRun + 1 then ({ x with lock := .locked, acceptRun := 8, rejectRun := 0 }, nq)
      else ({ x with acceptRun := x.acceptRun + 1, rejectRun := 0 }, tTach)
    else ({ x with acceptRun := 0, rejectRun := 0 }, tTach)
  | .locked =>
    if accepted then ({ x with rejectRun := 0 }, nq)
    else if 4 ≤ x.rejectRun + 1 then ({ x with lock := .unlocked, acceptRun := 0, rejectRun := 0 }, tTach)
    else ({ x with rejectRun := x.rejectRun + 1 }, x.nPrev)

/-- The applied length: the target at a jump, otherwise a step towards it within the slew limits (R54, R55). -/
def appliedStep (p : TimebaseSettings) (jumped : Bool) (prev target : Int) : Int :=
  if jumped then target else prev + clamp (-(p.slewDown : Int)) p.slewUp (target - prev)

/-- Takes one VALID span for one side: the side afterwards and the fields stored (R50 to R56, R58). -/
def sideSpan (p : TimebaseSettings) (tTach : Nat) (sd : Side) (src : Source) (x : SideTimebase) (c : Quad (BitVec 16)) :
    SideTimebase × SpanTimebase :=
  let nq := match sourceTrack sd src with
    | some t => residueLength (c.get t).toNat p.bias
    | none => 0
  let accepted := match sourceTrack sd src with
    | some _ => some (inWindow nq tTach p.window)
    | none => none
  let (x1, target) := lockStep x tTach nq (accepted.getD false)
  let n := appliedStep p (p.jump && decide (x1.lock ≠ x.lock)) x.nPrev target
  let sum := (x.accumulator : Int) + n
  ({ x1 with nPrev := n, accumulator := (sum % 65536).toNat }, ⟨n, x1.lock, accepted, x.accumulator⟩)

/-- Takes one VALID span for both sides (R50). -/
def Timebase.takeSpan (t : Timebase) (c : Quad (BitVec 16)) : Timebase × PerSide SpanTimebase :=
  let (a, fa) := sideSpan t.settings t.tTach .A t.settings.source.a t.sides.a c
  let (b, fb) := sideSpan t.settings t.tTach .B t.settings.source.b t.sides.b c
  ({ t with sides := ⟨a, b⟩ }, ⟨fa, fb⟩)

end Sys2Proof.Machine
end

