-- ==== Sys2Proof/Machine/CaptureOps.lean ====
section
/-! DEFINITION. The Capture Unit: frames, cells, spans, segments, opening and closing a pass (02). -/

namespace Sys2Proof.Machine

/-- The segment entered and the open strip, while a segment is entered. -/
def State.entered (s : State) : Option Entered := s.capture.pass.bind (·.entered)

/-- The last residue counts; zero before the first frame, when no pass can be open (R23). -/
def State.residueNow (s : State) : Quad (BitVec 16) := s.capture.lastResidue.getD (Quad.fill 0#16)

/-- A span as it begins (R25 step 4, R26 step 5). -/
def State.beginSpan (s : State) (g k : Nat) (whole : Bool) : SpanCount :=
  { segment := g, index := k, whole := whole, first := s.capture.frameCount, frames := 0, startResidue := s.residueNow
    sums := Oct.fill 0, overload := Oct.fill 0, cells := 0, dropped := Oct.fill 0, snapshot := s.capture.reference
    backtrack := false, ended := none, means := Oct.fill 0 }

/-- Cell `j` with no frames. -/
def Cell.start (j : Nat) : Cell := ⟨j, 0, Oct.fill 0⟩

/-! ## Span table -/

/-- Replaces record `k` of the open strip's span table; the capture writer is to write it (R31, R78). -/
def State.writeSpan (s : State) (i k : Nat) (f : SpanRecord → SpanRecord) : State :=
  (s.modStrip i fun x => { x with spans := x.spans.modify k f }).requestRecord i .table

/-- An element's quality over a VALID span (R37). -/
def elementQuality (x : SpanCount) (e : Fin 8) : Nat :=
  let q1 := if x.cells = 0 then 0 else 15 - 15 * x.dropped.get e / x.cells
  let q2 := if 0 < x.overload.get e then q1 - 4 else q1
  let q3 := if x.means.get e * 4 < x.snapshot.get (trackOf e) then 0 else q2
  if x.backtrack then 0 else q3

/-- The element qualities of an ended span: 0 unless it is VALID, and 0 for a disabled element (R37). R39 says that the spans
of an overrun strip have qualities of 0. That this is said of its OVERRUN spans, and that a span ended VALID before overrun
keeps the qualities R37 gives it, is the model's reading (DEDUCED, log 44). -/
def spanQuality (enables : Oct Bool) (x : SpanCount) : Oct Nat :=
  Oct.ofFn fun e => if x.ended = some .valid ∧ enables.get e = true then elementQuality x e else 0

/-- Completes an ended span: its judged cells and qualities enter the span table (R33, R37). -/
def State.completeSpan (s : State) (i : Nat) (x : SpanCount) : State :=
  s.writeSpan i x.index fun r =>
    { r with cells := x.cells, dropped := x.dropped, quality := spanQuality s.capture.settings.enables x }

/-! ## Capture cells (R34) -/

/-- Whether a cell of `k` frames is dropped for an element against a snapshot (R34). -/
def cellDropped (threshold : Nat) (snapshot : Quad Nat) (c : Cell) (e : Fin 8) : Bool :=
  decide (c.sums.get e / c.taken * 256 < snapshot.get (trackOf e) * threshold)

/-- The elements a judgement counts as dropped: enabled ones only (R21). -/
def countedDrops (p : CaptureSettings) (snapshot : Quad Nat) (c : Cell) : Oct Bool :=
  Oct.ofFn fun e => p.enables.get e && cellDropped p.dropThreshold snapshot c e

/-- The dropout map's flags: a disabled element is recorded as dropped (R21). -/
def mapDrops (p : CaptureSettings) (snapshot : Quad Nat) (c : Cell) : Oct Bool :=
  Oct.ofFn fun e => !p.enables.get e || cellDropped p.dropThreshold snapshot c e

/-- The span's counts after one of its cells is judged. -/
def SpanCount.judged (x : SpanCount) (drops : Oct Bool) : SpanCount :=
  { x with cells := x.cells + 1, dropped := Oct.ofFn fun e => x.dropped.get e + (drops.get e).toNat }

/-- The half of the dropout map a cell lies in. -/
def dropoutBlock (j : Nat) : RecordBlock := if j < 2048 then .dropoutLow else .dropoutHigh

/-- The cell after cell `j`: a strip holds cells 0 to 4,095, and after the last of them, at which overrun begins, there is
no current cell (R32, R39). The capture state table gives the item a range and does not say what it is then; that it is
absent is the model's reading (DEDUCED, log 37). -/
def nextCell (j : Nat) : Option Cell :=
  if j + 1 < Config.stripFrames / Config.cellFrames then some (Cell.start (j + 1)) else none

/-- The judgement enters the dropout map and the tallies, and the next cell begins (R34, R43). -/
def State.recordJudgement (s : State) (i : Nat) (c : Cell) (snapshot : Quad Nat) : State :=
  let drops := countedDrops s.capture.settings snapshot c
  let flags := flagsByte (mapDrops s.capture.settings snapshot c)
  let s1 := (s.modStrip i fun x => { x with dropout := x.dropout ++ [flags] }).requestRecord i (dropoutBlock c.index)
  s1.setCapture { s1.capture with
    cell := nextCell c.index
    tallies := Oct.ofFn fun e => min (s1.capture.tallies.get e + (drops.get e).toNat) Config.countMax }

/-- Judges the current cell, which belongs to the closing span if there is one and to the span in progress otherwise; a
closing span is complete with it (R33, R34). A cell that holds no frames is not judged. -/
def State.judgeCell (s : State) : State :=
  match s.entered, s.capture.cell with
  | some en, some c =>
    if c.taken = 0 then s
    else
      match s.capture.closing, s.capture.span with
      | some x, _ =>
        let s1 := s.recordJudgement en.strip c x.snapshot
        (s1.setCapture { s1.capture with closing := none }).completeSpan en.strip
          (x.judged (countedDrops s.capture.settings x.snapshot c))
      | none, some x =>
        let s1 := s.recordJudgement en.strip c x.snapshot
        s1.setCapture { s1.capture with span := some (x.judged (countedDrops s.capture.settings x.snapshot c)) }
      | none, none => s
  | _, _ => s

/-! ## Frames (R19, R20, R39) -/

/-- The magnitude of a sample: 8,388,608 for the most negative one (R20). -/
def magnitude (x : Int) : Nat := x.natAbs

/-- The span in progress with one frame counted (R20 step 3). -/
def SpanCount.countFrame (x : SpanCount) (f : ElementFrame) : SpanCount :=
  { x with
    frames := x.frames + 1
    sums := Oct.ofFn fun e => x.sums.get e + magnitude (f.samples.get e)
    overload := Oct.ofFn fun e => x.overload.get e + (f.overload.getLsbD e.val).toNat }

/-- The current cell with one frame taken (R20 steps 3 and 4). -/
def Cell.countFrame (c : Cell) (f : ElementFrame) : Cell :=
  { c with taken := c.taken + 1, sums := Oct.ofFn fun e => c.sums.get e + magnitude (f.samples.get e) }

/-- Overrun begins when the frame count reaches the strip's capacity (R39): the descriptor shows it (R68). -/
def State.checkOverrun (s : State) (i : Nat) : State :=
  if s.capture.frameCount = Config.stripFrames then
    ((s.setCapture { s.capture with overrun := true }).modDescriptor i fun d => { d with overrun := true }).requestRecord i
      .table
  else s

/-- Judges the current cell if it holds 64 frames (R20 step 4). -/
def State.judgeFull (s : State) : State :=
  match s.capture.cell with
  | some c => if c.taken = Config.cellFrames then s.judgeCell else s
  | none => s

/-- Takes a frame into the open strip (R20 steps 2 to 5). -/
def State.writeFrame (s : State) (i : Nat) (f : ElementFrame) : State :=
  let s1 := s.setStore { s.store with writeBuffer := s.store.writeBuffer ++ [(i, ⟨f.samples, f.overload⟩)] }
  let s2 := s1.setCapture { s1.capture with
    frameCount := s1.capture.frameCount + 1
    span := s1.capture.span.map fun x => x.countFrame f
    cell := s1.capture.cell.map fun c => c.countFrame f }
  s2.judgeFull.checkOverrun i

/-- A frame taken while CAPTURING: discarded under overrun, otherwise taken into the open strip (R20). The input timer is
restarted: it goes on running. -/
def State.captureFrame (s : State) (f : ElementFrame) : State :=
  let s1 := s.setCapture { s.capture with inputTimer := true }
  if s1.capture.overrun then s1
  else
    match s1.entered with
    | some en => s1.writeFrame en.strip f
    | none => s1

/-! ## The end of a span (R26, R27, R30, R35) -/

/-- The validity of a span that ends, by its boundary event or, with `cut`, by the close of the pass (R30). -/
def validityOf (overrun cut : Bool) (x : SpanCount) : Validity :=
  if overrun then .overrun
  else if cut then .cut
  else if !x.whole then .part
  else if x.frames = 0 then .empty
  else .valid

/-- The residue counts of a span: end counts minus start counts, modulo 65,536 (R27). -/
def residueOf (start stop : Quad (BitVec 16)) : Quad (BitVec 16) := Quad.ofFn fun t => stop.get t - start.get t

/-- The span means (R26 step 1); 0 for a span without frames. -/
def meansOf (x : SpanCount) : Oct Nat := Oct.ofFn fun e => x.sums.get e / x.frames

/-- The greatest span mean of a track's enabled elements (R35). -/
def greatestMean (enables : Oct Bool) (means : Oct Nat) (t : Fin 4) : Nat :=
  max (if enables.get (outerOf t) then means.get (outerOf t) else 0)
    (if enables.get (innerOf t) then means.get (innerOf t) else 0)

/-- A reference level renewed by a span's greatest mean (R35). -/
def renewLevel (level floor greatest : Nat) : Nat :=
  max floor ((level : Int) + Int.tdiv ((greatest : Int) - level) 8).toNat

/-- The reference levels after a VALID span (R35). -/
def renewReference (p : CaptureSettings) (l : Quad Nat) (means : Oct Nat) : Quad Nat :=
  Quad.ofFn fun t => renewLevel (l.get t) p.levelFloor (greatestMean p.enables means t)

/-- The record of a span as it ends, its qualities still 0 (R31). -/
def endRecord (x : SpanCount) (v : Validity) (c : Quad (BitVec 16)) (tb : Option (PerSide SpanTimebase)) : SpanRecord :=
  { validity := v, backtrack := x.backtrack, first := x.first, frames := x.frames
    residue := if v = .valid then some c else none, means := meansOf x, overload := x.overload, dropped := x.dropped
    cells := x.cells, quality := Oct.fill 0, timebase := tb }

/-- Gives a VALID span to the Timebase Unit; answers the fields it stores (R50). -/
def State.timebaseSpan (s : State) (c : Quad (BitVec 16)) : State × Option (PerSide SpanTimebase) :=
  match s.timebase with
  | some t => (s.setTimebase (some (t.takeSpan c).1), some (t.takeSpan c).2)
  | none => (s, none)

/-- What a VALID span does beyond its record: the timebase and the reference levels (R26 step 3). -/
def State.validSpan (s : State) (x : SpanCount) (c : Quad (BitVec 16)) : State × Option (PerSide SpanTimebase) :=
  let (s1, tb) := s.timebaseSpan c
  (s1.setCapture { s1.capture with reference := renewReference s1.capture.settings s1.capture.reference (meansOf x) }, tb)

/-- Whether a capture cell of the span in progress is still being filled: cells of an earlier span have a closing span
(R26 step 4, R33). -/
def State.cellUnfinished (s : State) : Bool :=
  s.capture.closing.isNone && s.capture.cell.any fun c => decide (0 < c.taken)

/-- Ends the span in progress, at its boundary event or, with `cut`, at the close of the pass (R26 steps 1 to 4, R42 step
1). -/
def State.endSpan (s : State) (cut : Bool) : State :=
  match s.capture.span, s.entered with
  | some x, some en =>
    let v := validityOf s.capture.overrun cut x
    let c := residueOf x.startResidue s.residueNow
    let (s1, tb) := if v = .valid then s.validSpan x c else (s, none)
    let x' := { x with ended := some v, means := meansOf x }
    let s2 := s1.writeSpan en.strip x.index fun _ => endRecord x v c tb
    if s2.cellUnfinished then s2.setCapture { s2.capture with span := none, closing := some x' }
    else (s2.setCapture { s2.capture with span := none }).completeSpan en.strip x'
  | _, _ => s

/-! ## The end of a strip (R28, R29, R42) -/

/-- A record of a span that was never in progress, at the end of the strip (R31). -/
def closeRecord (frames : Nat) (r : SpanRecord) : SpanRecord :=
  if r.validity = .unreached then { r with first := frames, frames := 0 } else r

/-- Ends the strip, which asks for its last record write (log 18): a cell that holds frames is judged, spans never in
progress get their first frame, and the strip's records are to be written for the last time (R28 step 1, R31, R78). -/
def State.endStrip (s : State) (i : Nat) : State :=
  let s1 := s.judgeCell
  let s2 := s1.setCapture { s1.capture with cell := none, closing := none }
  (s2.modStrip i fun x => { x with spans := x.spans.map (closeRecord s2.capture.frameCount) }).requestRecord i .table

/-- The VALID records of a span table. -/
def validRecords (l : List SpanRecord) : List SpanRecord := l.filter fun r => r.validity = .valid

/-- An entry's quality on a track: the mean of the VALID spans' track qualities (R29). -/
def trackQuality (l : List SpanRecord) (t : Fin 4) : Nat :=
  (((validRecords l).map fun r => max (r.quality.get (outerOf t)) (r.quality.get (innerOf t))).sum) /
    (validRecords l).length

/-- The spans stored LOCKED for a side (R29). -/
def lockedSpans (l : List SpanRecord) (sd : Side) : Nat :=
  (l.filter fun r => r.timebase.any fun t => (t.get sd).lock = .locked).length

/-- The entry assembled from a span table (R29). -/
def assembleEntry (l : List SpanRecord) (overrun inputLost : Bool) : EntryFields :=
  { validity := l.map (·.validity)
    complete := l.all fun r => r.validity = .valid
    quality := Quad.ofFn (trackQuality l)
    locked := ⟨lockedSpans l .A, lockedSpans l .B⟩
    overrun := overrun
    backtrack := l.any (·.backtrack)
    inputLost := inputLost
    exclude := false }

/-- Leaves the segment entered: the strip ends and the assembled entry is taken (R28 steps 1 and 2, R42 step 2). -/
def State.leaveSegment (s : State) (number : Nat) (en : Entered) (inputLost : Bool) : State :=
  let s1 := s.endStrip en.strip
  s1.takeEntry en.segment number en.strip (assembleEntry (s1.strip en.strip).spans s1.capture.overrun inputLost)

/-! ## Entering a segment (R28) -/

/-- Enters segment `g` with its span `k` as the span in progress (R25 step 4, R28 steps 4 and 5). -/
def State.enterSegment (s : State) (p : OpenPass) (g k : Nat) (whole : Bool) (previous : Option Nat) : State :=
  let (s1, i) := s.enterMap g p.number previous
  let s2 := s1.setCapture { s1.capture with
    pass := some { p with entered := some ⟨g, i⟩, lastSegment := g }
    frameCount := 0, overrun := false, closing := none, cell := some (Cell.start 0) }
  s2.setCapture { s2.capture with span := some (s2.beginSpan g k whole) }

/-! ## Opening a pass (R22 to R25) -/

/-- The conditions of R22 but for the pass counter. -/
def State.mayOpen (s : State) : Bool :=
  s.map.session = .armed && s.motion.sync = .synced && s.motion.mode = .play && inMap s.motion.position &&
    (s.motion.tapeEnd.all fun e => decide (s.motion.position < e)) && !s.capture.inputWait

/-- Opens a pass at the position held (R25). -/
def State.openPass (s : State) : State :=
  let p := s.motion.position
  let g := (p / 512).toNat
  let number := s.map.passCounter + 1
  let s1 := s.setMap { s.map with passCounter := number }
  let pass : OpenPass := ⟨number, none, g⟩
  let s2 := s1.setCapture { s1.capture with
    pass := some pass, settings := s1.link.profile.capture
    reference := Quad.fill s1.link.profile.capture.initialLevel, inputTimer := true }
  let s3 := s2.setTimebase (some (startTimebase s2.link.profile.timebase))
  let s4 := s3.setMotion { s3.motion with high := some ⟨p, p / 32 * 32 + 32⟩ }
  let s5 := s4.enterSegment pass g ((p / 32) % 16).toNat (decide (p % 32 = 0)) none
  s5.postWork (.passOpened number g p)

/-- An opening event: while IDLE, opens a pass if every condition holds; blocked by the pass counter alone, posts
PASS_LIMIT once (R22, R24). -/
def State.openingEvent (s : State) : State :=
  if s.capturing then s
  else if s.mayOpen then
    if s.map.passCounter < Config.passMax then s.openPass
    else if s.capture.limitNoticed then s
    else (s.setCapture { s.capture with limitNoticed := true }).postWork .passLimit
  else s

/-! ## Closing a pass (R41, R42) -/

/-- Steps 1 and 2 of a close: the span in progress is cut and the segment entered is left. -/
def State.cutSegment (s : State) (p : OpenPass) (inputLost : Bool) : State :=
  match p.entered with
  | some en => (s.endSpan true).leaveSegment p.number en inputLost
  | none => s

/-- Closes the open pass with a cause; while IDLE, nothing (R42). -/
def State.closePass (s : State) (cause : CloseCause) : State :=
  match s.capture.pass with
  | none => s
  | some p =>
    let lost := decide (cause = .inputLost)
    let high := ((s.motion.high.map (·.position)).getD s.motion.position)
    let s1 := s.cutSegment p lost
    let s2 := (s1.setMotion { s1.motion with high := none }).setTimebase none
    let s3 := if lost then s2.postWork (.inputLost p.number high) else s2
    let s4 := s3.postWork (.passClosed p.number cause p.lastSegment high)
    let s5 := s4.requestPassClosed.autoOnClose p.number p.lastSegment
    s5.setCapture { s5.capture with
      pass := none, span := none, closing := none, cell := none, inputTimer := false
      inputWait := s5.capture.inputWait || lost }

/-! ## Boundary events while CAPTURING (R26, R28) -/

/-- A segment boundary: the segment is left; the pass closes at the map edge or the tape end, or enters the next (R28).
DEDUCED (log 42): with a tape end confirmed at exactly 2,097,152 both conditions of R28 step 3 hold at that boundary, and the
step gives them no precedence. The model tests them in the order the step names them, so the cause is MAP_EDGE. -/
def State.segmentBoundary (s : State) (p : OpenPass) (en : Entered) (b : Int) : State :=
  let s1 := s.leaveSegment p.number en false
  let p' := { p with entered := none }
  let s2 := s1.setCapture { s1.capture with pass := some p' }
  match segmentOf b with
  | none => s2.closePass .mapEdge
  | some g =>
    if s2.motion.tapeEnd.any fun e => decide (e ≤ b) then s2.closePass .endMark
    else s2.enterSegment p' g 0 true (some en.strip)

/-- A forward boundary event taken while CAPTURING (R26, R28). -/
def State.captureBoundary (s : State) (b : Int) : State :=
  match s.capture.pass with
  | none => s
  | some p =>
    match p.entered with
    | none => s
    | some en =>
      let k := ((s.capture.span.map (·.index)).getD 0) + 1
      let s1 := s.endSpan false
      if b % 512 = 0 then s1.segmentBoundary p en b
      else s1.setCapture { s1.capture with span := some (s1.beginSpan en.segment k true) }

/-- Marks the span in progress BACKTRACK (R38). -/
def State.markBacktrack (s : State) : State :=
  s.setCapture { s.capture with span := s.capture.span.map fun x => { x with backtrack := true } }

end Sys2Proof.Machine
end

