-- ==== Sys2Proof/Machine/AdvisoryOps.lean ====
section
/-! DEFINITION. The Advisory Unit: input score, effective score, target and advisory speed, zone (09). -/

namespace Sys2Proof.Machine

/-- Whether the map is trusted for the advice (R166). -/
def State.mapTrusted (s : State) : Bool := s.map.session = .armed && s.motion.sync = .synced

/-- The segments of the window, nearest first (R166). -/
def advisoryWindow (p : AdvisorySettings) (c : Int) (d : Dir) : List Int :=
  if p.ahead then
    (List.range p.lookAhead).map fun (i : Nat) =>
      match d with
      | .forward => c + 1 + i
      | .reverse => c - 1 - i
  else [c]

/-- A segment number as a segment of the map not beyond the tape end, or none (R166, R104). -/
def State.advisable (s : State) (c : Int) : Option Nat :=
  if 0 ≤ c ∧ c < 4096 ∧ s.beyondTapeEnd c.toNat = false then some c.toNat else none

/-- The greatest score of a window with the segment that carries it, the nearest of equals (R166). -/
def greatestScore : List (Nat × Nat) → Option (Nat × Nat)
  | [] => none
  | (g, x) :: l =>
    match greatestScore l with
    | some (h, y) => if x < y then some (h, y) else some (g, x)
    | none => some (g, x)

/-- The input score and its source segment (R166). -/
def State.inputScore (s : State) (c : Int) (d : Dir) : Nat × Option Nat :=
  let p := s.link.profile.advisory
  if s.mapTrusted then
    match greatestScore (((advisoryWindow p c d).filterMap s.advisable).map fun g => (g, s.advisedScore g)) with
    | some (g, x) => (x, some g)
    | none => (p.unseen, none)
  else (p.unseen, none)

/-- The effective score and score segment after hysteresis (R167). -/
def hysteresisStep (h : Nat) (effective : Nat) (seg : Option Nat) (input : Nat × Option Nat) : Nat × Option Nat :=
  if effective < input.1 then input
  else if input.1 + h ≤ effective then input
  else (effective, seg)

/-- The target speed of a score from the points (x, s) and (y, t) of an interval (R169). -/
def interpolate (on : Bool) (x : Nat) (p q : Nat × Nat) : Int :=
  if on then p.2 + (((q.2 : Int) - p.2) * ((x : Int) - p.1)) / ((q.1 : Int) - p.1) else p.2

/-- The target speed of a score (R169). -/
def targetSpeed (on : Bool) (x : Nat) : List (Nat × Nat) → Int
  | [] => 1000
  | [p] => p.2
  | p :: q :: l => if x ≤ p.1 then p.2 else if x < q.1 then interpolate on x p q else targetSpeed on x (q :: l)

/-- The last breakpoint (R170). -/
def lastPoint (l : List (Nat × Nat)) : Nat × Nat := l.getLastD (255, 400)

/-- The advisory speed after one step of jump or slew (R170). -/
def speedStep (p : AdvisorySettings) (effective speed : Nat) : Nat :=
  let target := (targetSpeed p.interpolate effective p.points).toNat
  if p.jump ∧ (lastPoint p.points).1 ≤ effective then (lastPoint p.points).2
  else if speed < target then min (speed + p.rise) target
  else if target < speed then max (speed - p.fall) target
  else speed

/-- The zone test (R172). -/
def State.zoneStep (s : State) (c : Int) : State :=
  let p := s.link.profile.advisory
  let a := s.advisory
  if a.zone then
    if a.effective + p.hysteresis < p.zone then
      (s.setAdvisory { a with zone := false }).postTransport
        (.zoneExit (if 0 ≤ c ∧ c < 4096 then some c.toNat else none) a.effective)
    else s
  else if p.zone ≤ a.effective then
    (s.setAdvisory { a with zone := true }).postTransport (.zoneEnter a.scoreSegment a.effective)
  else s

/-- A recomputation at a reference position in a direction (R164, R165). -/
def State.recompute (s : State) (ref : Int) (d : Dir) : State :=
  let p := s.link.profile.advisory
  let c := ref / 512
  let (e, g) := hysteresisStep p.hysteresis s.advisory.effective s.advisory.scoreSegment (s.inputScore c d)
  (s.setAdvisory { s.advisory with effective := e, scoreSegment := g, speed := speedStep p e s.advisory.speed }).zoneStep c

end Sys2Proof.Machine
end

