-- ==== Sys2Proof/Machine/MotionOps.lean ====
section
/-! DEFINITION. The Motion Tracker's shared work: runs and wear, start marks, end marks, the sensor, boundaries, the
declaration of a mode (01). -/

namespace Sys2Proof.Machine

/-! ## Head-engaged runs and wear (R16, R17) -/

/-- Whether segment `g` lies between the run's lowest and highest counted segments. -/
def Run.has (r : Run) (g : Nat) : Bool := r.counted.any fun c => decide (c.1 ≤ g) && decide (g ≤ c.2)

/-- The run with segment `g` counted. -/
def Run.count (r : Run) (g : Nat) : Run :=
  ⟨some (match r.counted with | some (lo, hi) => (min lo g, max hi g) | none => (g, g))⟩

/-- Attributes wear for the segment in which the position lies (R17). -/
def State.attributeWear (s : State) : State :=
  match s.motion.run, segmentOf s.motion.position with
  | some r, some g =>
    if s.map.session = .armed ∧ s.beyondTapeEnd g = false ∧ r.has g = false then
      (s.modSegment g fun x => { x with wear := satInc x.wear 255 }).setMotion { s.motion with run := some (r.count g) }
    else s
  | _, _ => s

/-- Begins a head-engaged run where playback and SYNCED both hold and none is active (R16, R17). -/
def State.beginRun (s : State) : State :=
  if s.motion.mode.playing = true ∧ s.motion.sync = .synced ∧ s.motion.run = none then
    (s.setMotion { s.motion with run := some ⟨none⟩ }).attributeWear
  else s

/-! ## Reports to the Capture Unit (R41) -/

/-- The position given to the Capture Unit, and the report of the high-water position at the tape end (R41). -/
def State.reportPosition (s : State) : State :=
  if s.capturing then
    if s.motion.position < 0 then s.closePass .mapEdge
    else
      match s.motion.high, s.motion.tapeEnd with
      | some h, some e => if e ≤ h.position then s.closePass .endMark else s
      | _, _ => s
  else s

/-! ## Start marks (R11 to R13) -/

/-- The slip record and sync state after a start mark with slip `x`: SYNCED from UNSYNCED, a slip correction, or a sync
fault (R11 to R13). -/
def State.judgeSlip (s : State) (x : Int) : State :=
  if s.motion.sync = .unsynced then (s.setMotion { s.motion with sync := .synced }).beginRun
  else if x.natAbs ≤ 64 then
    s.setMotion { s.motion with
      slipCount := satInc s.motion.slipCount Config.countMax, largestSlip := max s.motion.largestSlip x.natAbs }
  else
    let s1 := s.setMotion { s.motion with syncFaults := satInc s.motion.syncFaults Config.countMax }
    ((s1.postTransport (.syncFault x)).postWork (.syncFault x)).markBacktrack

/-- Moves the position so that the mark's edge stands at 0; the high-water position moves with it (R12). -/
def State.moveBySlip (s : State) (x : Int) : State :=
  s.setMotion { s.motion with
    position := s.motion.position - x
    high := s.motion.high.map fun h => { h with position := h.position - x } }

/-- Takes a start mark with slip `x` (R12): the position moves, the slip is judged, the Capture Unit and the Advisory Unit
have the start-mark event, and the position is reported. DESIGN CHOICE (log 38): R12, R13 and R172 give the judgement of a
sync fault and the start-mark event no order. Here the fault comes first: SYNC_FAULT stands before a PASS_OPENED or a zone
notice that the same mark causes, and a pass that the mark opens is not marked BACKTRACK by it. DESIGN CHOICE (log 40): R12,
R41, R164 and R166 give the recomputation and the report of the new position no order. Here the recomputation comes first: it
reads the map as it stood before a close that the report causes (MAP_EDGE below 0) finalizes an entry and sets a hazard. -/
def State.startMark (s : State) (x : Int) : State :=
  let s1 := ((s.moveBySlip x).judgeSlip x).openingEvent
  (s1.recompute s1.motion.position s1.direction).reportPosition

/-! ## End marks and splice patches (R9, R10) -/

/-- Confirms the end mark at `e` (R10). -/
def State.endMark (s : State) (e : Int) : State :=
  if s.motion.sync = .synced then
    let s1 := (s.setMotion { s.motion with tapeEnd := some e }).closePass .endMark
    let s2 := s1.setMap { s1.map with tapeEndSegment := segmentOf e }
    (s2.postTransport (.endMark e)).postWork (.endMark e)
  else s

/-- Records a splice patch with lower edge `l` (R9). -/
def State.splicePatch (s : State) (l : Int) : State :=
  match segmentOf l with
  | some g =>
    if s.motion.sync = .synced ∧ s.map.session = .armed then
      s.modSegment g fun r => if r.splice.isSome then r else { r with splice := some (l % 512).toNat }
    else s
  | none => s

/-! ## The mark sensor (R5 to R8) -/

/-- An opaque-to-clear edge opens the clear interval (R6). -/
def State.openInterval (s : State) (d : Dir) : State :=
  let e := s.motion.position
  s.setMotion { s.motion with
    clearInterval := some ⟨(match d with | .forward => .forwardEdge e | .reverse => .reverseEdge e), false⟩ }

/-- A clear-to-opaque edge closes the clear interval and is a start mark, a splice patch or no mark (R8). -/
def State.closeInterval (s : State) (d : Dir) : State :=
  let s1 := s.setMotion { s.motion with clearInterval := none }
  match s.motion.clearInterval, d with
  | some ⟨.load, _⟩, .forward => s1.startMark s.motion.position
  | some ⟨.reverseEdge _, true⟩, .forward => s1.startMark s.motion.position
  | some ⟨.reverseEdge _, false⟩, .reverse => s1.splicePatch s.motion.position
  | some ⟨.forwardEdge e, false⟩, .forward => s1.splicePatch e
  | _, _ => s1

/-- Accepts an edge if the level differs and edge travel is 16 (R5). -/
def State.acceptEdge (s : State) (d : Dir) (level : Level) : State :=
  let travel := satInc s.motion.edgeTravel 16
  if level ≠ s.motion.sensorLevel ∧ travel = 16 then
    let s1 := s.setMotion { s.motion with edgeTravel := 0, sensorLevel := level }
    match level with
    | .clearTape => s1.openInterval d
    | .opaqueTape => s1.closeInterval d
  else s.setMotion { s.motion with edgeTravel := travel }

/-- Tests an OPEN clear interval against the position (R7). -/
def State.testInterval (s : State) : State :=
  match s.motion.clearInterval with
  | some ⟨.forwardEdge e, false⟩ =>
    if e + 64 ≤ s.motion.position then
      (s.setMotion { s.motion with clearInterval := some ⟨.forwardEdge e, true⟩ }).endMark e
    else s
  | some ⟨.reverseEdge e, false⟩ =>
    if s.motion.position ≤ e - 64 then
      (s.setMotion { s.motion with clearInterval := some ⟨.reverseEdge e, true⟩ }).startMark e
    else s
  | _ => s

/-- Evaluates the mark sensor at a counted pulse (R5 to R8). -/
def State.evaluateSensor (s : State) (d : Dir) (level : Level) : State := (s.acceptEdge d level).testInterval

/-! ## Pulses and boundaries (R1, R14, R15) -/

/-- One pulse in a direction. -/
def pulseStep : Dir → Int
  | .forward => 1
  | .reverse => -1

/-- Counts a pulse: position, direction, and the high-water position of an open pass; a pulse beyond a limit leaves the
position there and a SYNCED part UNSYNCED, which ends a run (R1 step 1, R11, R16). -/
def State.countPulse (s : State) (d : Dir) : State :=
  let p := s.motion.position + pulseStep d
  if p < Config.positionMin ∨ Config.positionMax < p then
    s.setMotion { s.motion with lastDir := some d, sync := .unsynced, run := none }
  else
    s.setMotion { s.motion with
      position := p, lastDir := some d
      high := s.motion.high.map fun h => { h with position := max h.position p } }

/-- The boundary crossed by a step from `p` to `q`, if any (R2). -/
def crossed (p q : Int) : Option Int :=
  if p < q then (if q % 32 = 0 then some q else none)
  else if q < p then (if p % 32 = 0 then some p else none)
  else none

/-- A boundary event while no pass is open: to the Advisory Unit, and to the Capture Unit, for which a forward one under
PLAY is an opening event (R14, R22, R164). -/
def State.boundaryEvent (s : State) (b : Int) (d : Dir) : State :=
  match d with
  | .forward =>
    let s1 := s.recompute b .forward
    if s1.motion.mode = .play then s1.openingEvent else s1
  | .reverse => s.recompute (b - 1) .reverse

/-- The forward boundary event of an open pass: to the Capture Unit, then to the Advisory Unit (log 9), and the next
boundary increases by 32 (R15). -/
def State.passBoundary (s : State) (b : Int) : State :=
  let s1 := (s.captureBoundary b).recompute b .forward
  s1.setMotion { s1.motion with high := s1.motion.high.map fun h => { h with next := h.next + 32 } }

/-- Judges the boundary crossings of a step from `p` (R1 step 2): by the high-water position while a pass is open, by the
step otherwise (R14, R15). A reverse pulse of an open pass is backtrack. -/
def State.judgeBoundaries (s : State) (p : Int) (d : Dir) : State :=
  if s.capturing then
    match d with
    | .forward =>
      match s.motion.high with
      | some h => if h.next ≤ h.position then s.passBoundary h.next else s
      | none => s
    | .reverse => s.markBacktrack
  else
    match crossed p s.motion.position with
    | some b => s.boundaryEvent b d
    | none => s

/-- A counted pulse (R1): the pulse, the boundaries, the reports of R41, the sensor, the wear. -/
def State.pulse (s : State) (d : Dir) (level : Level) : State :=
  let s1 := (s.setPins { s.pins with sensor := level }).countPulse d
  let s2 := (s1.judgeBoundaries s.motion.position d).reportPosition
  (s2.evaluateSensor d level).attributeWear

/-! ## Declared motion (R3, R96) -/

/-- Changes the session state and reports it (R96). -/
def State.setSession (s : State) (x : Session) (cleared : Bool) : State :=
  (s.setMap { s.map with session := x }).postWork (.sessionChanged x cleared)

/-- The load event's effect on the session (R96). DESIGN CHOICE (log 39): a MAP_STALE that meets a full FIFO sets the lost
flag, as R181 says of every notice discarded there, though R185's table gives the flag as kept at a load. -/
def State.sessionLoad (s : State) : State :=
  match s.map.session with
  | .vacant => s.setSession .armed false
  | .detached => (s.setSession .stale false).postTransport .mapStale
  | .armed => s
  | .stale => s

/-- The eject event's effect on the session (R96). -/
def State.sessionEject (s : State) : State :=
  match s.map.session with
  | .armed => s.setSession .detached false
  | .stale => s.setSession .detached false
  | .vacant => s
  | .detached => s

/-- A load, with the level the sensor shows (R3). -/
def State.load (s : State) (level : Level) : State :=
  let s1 := s.setPins { s.pins with sensor := level }
  (s1.setMotion { s1.motion with
    position := 0, sync := .unsynced, lastDir := none, sensorLevel := level, edgeTravel := 16
    clearInterval := if level = .clearTape then some ⟨.load, true⟩ else none, run := none }).sessionLoad

/-- An eject (R3). -/
def State.eject (s : State) : State :=
  (s.setMotion { s.motion with sync := .unsynced, run := none, clearInterval := none }).sessionEject

/-- The effects of leaving PLAY: an open pass closes, and limit noticed is cleared (R3, R24, R41). -/
def State.leavePlay (s : State) (cause : CloseCause) : State :=
  let s1 := s.closePass cause
  s1.setCapture { s1.capture with limitNoticed := false }

/-- The change of the declared mode to `m`, a mode other than the one held, with the effects of R3 in this order: leaving
PLAY, leaving playback, load or eject, entering playback, entering PLAY. -/
def State.changeMode (s : State) (m : Mode) (level : Level) (cause : CloseCause) : State :=
  let old := s.motion.mode
  let s1 := s.setMotion { s.motion with mode := m }
  let s2 := if old = .play then s1.leavePlay cause else s1
  let s3 := if m.playing then s2 else s2.setMotion { s2.motion with run := none }
  let s4 := if old = .unloaded then s3.load level else if m = .unloaded then s3.eject else s3
  let s5 := s4.beginRun
  if m = .play then s5.openingEvent else s5

/-- A declaration of a mode: the mode already held has no effect (R3). -/
def State.declareMode (s : State) (m : Mode) (level : Level) (cause : CloseCause) : State :=
  if m = s.motion.mode then s else s.changeMode m level cause

end Sys2Proof.Machine
end

