-- ==== Sys2Proof/Machine/Arbiter.lean ====
section
/-! DEFINITION. The store arbiter and the link transmitter: what the three requesters ask for, the grant, the data a link
burst reads, the next frame sent, and the settling of both after each event (4.7, 11.2). -/

namespace Sys2Proof.Machine

/-! ## The capture writer (R78) -/

/-- The frames of the oldest strip in the write buffer that one burst may take: at most 64. -/
def leadingFrames (i : Nat) : List (Nat × StoredFrame) → Nat
  | [] => 0
  | w :: l => if w.1 = i then leadingFrames i l + 1 else 0

/-- The frame burst the writer asks for: 64 frames of a strip, or fewer when the strip has ended. -/
def State.frameBurst (s : State) : Option WriteBurst :=
  match s.store.writeBuffer with
  | [] => none
  | w :: l =>
    let n := min (leadingFrames w.1 (w :: l)) Config.cellFrames
    if n = Config.cellFrames ∨ (s.strip w.1).state ≠ .opened then some (.frames w.1 n) else none

/-- The burst the writer asks for: frames before records (R78). DESIGN CHOICE (log 45): R76 has the writer hold one request
and renew it at a burst's completion, and R78 says what it requests first, not whether frames that fall due overtake a request
for a record write it already holds. Here the request is formed afresh at each grant, so the frames go first. -/
def State.writerRequest (s : State) : Option WriteBurst :=
  match s.frameBurst with
  | some b => some b
  | none =>
    match s.store.recordWrites with
    | [] => none
    | w :: _ => some (.records w.1 w.2)

/-- Grants the writer its burst; a record write leaves the list of those waiting. -/
def State.grantWriter (s : State) (b : WriteBurst) : State :=
  s.setStore { s.store with
    burst := some .writer, writeBurst := some b
    recordWrites := match b with
      | .frames _ _ => s.store.recordWrites
      | .records _ _ => s.store.recordWrites.drop 1 }

/-- The frames a frame burst moves to a strip. -/
def State.burstFrames (s : State) (i n : Nat) : List StoredFrame :=
  ((s.store.writeBuffer.filter fun w => w.1 = i).take n).map (·.2)

/-- The write buffer without the first `n` frames of a strip. -/
def dropFrames (i : Nat) : Nat → List (Nat × StoredFrame) → List (Nat × StoredFrame)
  | 0, l => l
  | _, [] => []
  | n + 1, w :: l => if w.1 = i then dropFrames i n l else w :: dropFrames i (n + 1) l

/-- Whether a strip has ended and nothing of it remains to be written. -/
def State.writtenOut (s : State) (i : Nat) : Bool :=
  (s.strip i).state = .held && !(s.store.writeBuffer.any fun w => w.1 = i) &&
    !(s.store.recordWrites.any fun w => w.1 = i)

/-- What a completed writer burst does: the frames are stored, or a record block is written, and with the strip's last
write burst Ended becomes yes (R68, R78). -/
def State.writeBurstDone (s : State) : State :=
  let s0 := s.setStore { s.store with writeBurst := none }
  match s.store.writeBurst with
  | some (.frames i n) =>
    let s1 := s0.modStrip i fun x => { x with frames := x.frames ++ s.burstFrames i n }
    s1.setStore { s1.store with writeBuffer := dropFrames i n s1.store.writeBuffer }
  | some (.records i _) => if s0.writtenOut i then s0.modDescriptor i fun d => { d with ended := true } else s0
  | none => s0

/-! ## The link's reads (R190 to R192) -/

/-- The bursts a read takes (log 7). -/
def ReadTarget.bursts : ReadTarget → Nat
  | .strip _ => Config.recordBursts
  | .raw _ _ f c => (f + c - 1) / Config.cellFrames - f / Config.cellFrames + 1
  | .rendition _ _ c => (c + (Config.pairsPerBurst - 1)) / Config.pairsPerBurst

/-- Whether the strip a read names may be read now; a slot always may (R78). -/
def State.targetReadable (s : State) (t : ReadTarget) : Bool :=
  match t.stripOf with
  | some i => s.readable i
  | none => true

/-- The span in progress as STRIP_READ shows it: its running counts, qualities of 0, the validity it would take if the
pass closed now (R31). -/
def State.runningRecord (s : State) (x : SpanCount) : SpanRecord :=
  endRecord x (if s.capture.overrun then .overrun else .cut) (Quad.fill 0#16) none

/-- The span table of a strip as a read finds it: as written, with the span in progress of the open strip (R31, R191). -/
def State.shownSpans (s : State) (i : Nat) : List SpanRecord :=
  match s.capture.span, s.entered with
  | some x, some en => if en.strip = i then (s.strip i).spans.set x.index (s.runningRecord x) else (s.strip i).spans
  | _, _ => (s.strip i).spans

/-- Block `k` of a strip's records: descriptor and span table, then the two halves of the dropout map. -/
def State.recordBlock (s : State) (i : Nat) : Nat → List Byte
  | 0 =>
    let x := s.strip i
    ((x.descriptor.map fun d => d.bytes i x.owner x.frames.length).getD []) ++ (s.shownSpans i).flatMap SpanRecord.bytes
  | 1 => dropoutHalf (s.strip i).dropout 0
  | _ => dropoutHalf (s.strip i).dropout 2048

/-- The samples of one element in frames `lo` to `hi` − 1 of a strip, three bytes each. -/
def State.rawBytes (s : State) (i e lo hi : Nat) : List Byte :=
  (((s.strip i).frames.drop lo).take (hi - lo)).flatMap fun f => leInt 3 (f.samples.get (Fin.ofNat 8 e))

/-- The sample data of a READY slot. -/
def Slot.readyData : Slot → List (Int × Int)
  | .ready _ _ d => d
  | .free => []
  | .filling _ _ => []

/-- Pairs `lo` to `hi` − 1 of a slot, six bytes each (R205). -/
def State.pairBytes (s : State) (k lo hi : Nat) : List Byte :=
  (((s.slot k).readyData.drop lo).take (hi - lo)).flatMap fun p => leInt 3 p.1 ++ leInt 3 p.2

/-- The data that burst `k` of a read moves. -/
def State.burstData (s : State) (t : ReadTarget) (k : Nat) : List Byte :=
  match t with
  | .strip i => s.recordBlock i k
  | .raw i e f c =>
    let b := f / Config.cellFrames + k
    s.rawBytes i e (max f (Config.cellFrames * b)) (min (f + c) (Config.cellFrames * (b + 1)))
  | .rendition sl f c =>
    s.pairBytes sl (f + Config.pairsPerBurst * k) (min (f + c) (f + Config.pairsPerBurst * (k + 1)))

/-- The oldest read in flight, if any. -/
def oldestRead : List PendingCommand → Option Read
  | [] => none
  | c :: l =>
    match c.answer with
    | .reading r => some r
    | .formed _ _ => oldestRead l

/-- Replaces the oldest read in flight by an answer. -/
def answerOldest (a : Answer) : List PendingCommand → List PendingCommand
  | [] => []
  | c :: l =>
    match c.answer with
    | .reading _ => { c with answer := a } :: l
    | .formed _ _ => c :: answerOldest a l

/-- The kind of the command whose read is the oldest in flight. -/
def oldestKind : List PendingCommand → Nat
  | [] => 0
  | c :: l =>
    match c.answer with
    | .reading _ => c.kind
    | .formed _ _ => oldestKind l

/-- Whether the link holds a burst request: for its oldest read, when that may be read (R190, R78). -/
def State.linkWants (s : State) : Bool :=
  match oldestRead s.link.commands with
  | some r => r.burst.isNone && s.targetReadable r.target
  | none => false

/-- The response of a read that completes (R190 to R192, R161). -/
def ReadTarget.result : ReadTarget → Result
  | .strip i => .strip i
  | .raw i e f c => .raw i e f c
  | .rendition k f c => .rendition k f c

/-- Sets the fetched flag of a READY slot. -/
def Slot.markFetched : Slot → Slot
  | .ready h r d => .ready h { r with fetched := true } d
  | .free => .free
  | .filling h d => .filling h d

/-- A completed fetch that reached the sample count marks its slot fetched, and the slot-available report is made (R161). -/
def State.fetchDone (s : State) (t : ReadTarget) : State :=
  match t with
  | .rendition k f c =>
    match s.slot k with
    | .ready h _ _ => if f + c = h.sampleCount then (s.setSlot k (s.slot k).markFetched).slotAvailable else s
    | .free => s
    | .filling _ _ => s
  | .strip _ => s
  | .raw _ _ _ _ => s

/-- What a completed link read burst does: the data joins the read's, and with its last burst the read is answered OK
(R190). A burst of a read since ended does nothing (R71). -/
def State.linkBurstDone (s : State) : State :=
  match oldestRead s.link.commands with
  | none => s
  | some r =>
    match r.burst with
    | none => s
    | some bs =>
      let data := r.data ++ bs
      if r.done + 1 < r.target.bursts then
        s.setLink { s.link with
          commands := answerOldest (.reading { r with done := r.done + 1, data := data, burst := none }) s.link.commands }
      else
        let kind := oldestKind s.link.commands
        let s1 := s.setLink { s.link with
          commands := answerOldest (.formed ⟨kind, .ok, r.target.result⟩ (some data)) s.link.commands }
        s1.fetchDone r.target

/-! ## The grant (R77) -/

/-- Grants the link a burst for its oldest read, whose data is read now (R191). -/
def State.grantLink (s : State) : State :=
  match oldestRead s.link.commands with
  | none => s
  | some r =>
    let s1 := s.setLink { s.link with
      commands := answerOldest (.reading { r with burst := some (s.burstData r.target r.done) }) s.link.commands }
    s1.setStore { s1.store with burst := some .link, lastReader := .link }

/-- Grants the Render Engine a burst. -/
def State.grantRender (s : State) : State :=
  let s1 := s.setRender { s.render with job := s.render.job.map fun j => { j with bursting := true } }
  s1.setStore { s1.store with burst := some .render, lastReader := .render }

/-- The arbiter's choice among the requests held while the store is idle: the writer first, then the reader not last
served, then the one that asks (R77). -/
def State.grant (s : State) : State :=
  match s.store.burst with
  | some _ => s
  | none =>
    match s.writerRequest with
    | some b => s.grantWriter b
    | none =>
      if s.renderWants = true ∧ s.linkWants = true then
        match s.store.lastReader with
        | .render => s.grantLink
        | .link => s.grantRender
      else if s.renderWants then s.grantRender
      else if s.linkWants then s.grantLink
      else s

/-! ## The transmitter (R189, R195) -/

/-- Chooses the next frame while the transmitter is idle: the head's response if formed, else the oldest notice, which
carries the lost-notice count and returns it to 0. -/
def State.transmit (s : State) : State :=
  match s.link.tx with
  | some _ => s
  | none =>
    match s.link.commands with
    | ⟨_, .formed r _⟩ :: _ => s.setLink { s.link with tx := some ⟨.response, r.frame⟩ }
    | _ =>
      match s.link.notices with
      | n :: rest =>
        s.setLink { s.link with tx := some ⟨.notice, n.frame s.link.lostNotices⟩, notices := rest, lostNotices := 0 }
      | [] => s

/-- What stands at once after an event: an idle store grants (R76) and an idle transmitter sends (R188, R189). -/
def State.settle (s : State) : State := s.grant.transmit

/-- The frame being sent has been sent: an OK read's data frame follows its response, and the head leaves the pending
list when it is answered in full (R188, R189). -/
def State.frameSent (s : State) : State :=
  match s.link.tx with
  | none => s
  | some t =>
    let idle := s.setLink { s.link with tx := none }
    let pop := s.setLink { s.link with tx := none, commands := s.link.commands.drop 1 }
    match t.role with
    | .notice => idle
    | .orphan => idle
    | .data => pop
    | .response =>
      match s.link.commands with
      | ⟨kind, .formed _ (some d)⟩ :: _ => s.setLink { s.link with tx := some ⟨.data, dataFrame kind d⟩ }
      | _ => pop

end Sys2Proof.Machine
end

