-- ==== Sys2Proof/Machine/Events.lean ====
section
/-! DEFINITION. The events of the pins, the converter array, the timers, the transmitter and the store. -/

namespace Sys2Proof.Machine

/-- Power-on, or the reset pin: every block at its power-on state, the strap read, a transaction discarded (R18, R64,
R176). The commands waiting and the count of free choices are the model's own and stay. -/
def execPowerOnReset (strap : Strap) (sensor : Level) (s : State) : Host.Outcome State Fault Refusal :=
  .next { State.powerOn strap sensor with free := s.free, pending := s.pending }

/-- A tachometer pulse (R1): discarded while UNLOADED, counted otherwise. -/
def execTachometerPulse (d : Dir) (sensor : Level) (s : State) : Host.Outcome State Fault Refusal :=
  if s.motion.mode = .unloaded then .next s else .next (s.pulse d sensor).settle

/-- A complete element frame (R19, R20): the last residue counts are renewed and the input wait is cleared, which under
PLAY is an opening event; while CAPTURING the frame is taken into the open strip. -/
def State.takeFrame (s : State) (f : ElementFrame) : State :=
  let s1 := s.setCapture { s.capture with lastResidue := some f.residue, inputWait := false }
  if s.capturing then s1.captureFrame f
  else if s.capture.inputWait = true ∧ s.motion.mode = .play then s1.openingEvent
  else s1

/-- The bytes of an element frame since its strobe (R200): taken when complete, discarded with no effect otherwise. -/
def execElementFrame (bytes : List Byte) (s : State) : Host.Outcome State Fault Refusal :=
  match readElementFrame bytes with
  | some f => .next (s.takeFrame f).settle
  | none => .next s

/-- The input timer expires (R40): an open pass closes with cause INPUT_LOST; while IDLE, nothing (R41). -/
def execInputTimerExpiry (s : State) : Host.Outcome State Fault Refusal := .next (s.closePass .inputLost).settle

/-- The take timer runs out (R116): a TAKEN request ends EXPIRED; with none, nothing. -/
def execTakeTimerExpiry (s : State) : Host.Outcome State Fault Refusal :=
  match s.takenRequest with
  | some r => if r.state = .taken then .next (s.endRequest r .expired).settle else .next s
  | none => .next s

/-- The transmitter has sent its frame and chooses the next (R189). -/
def execLinkFrameSent (s : State) : Host.Outcome State Fault Refusal := .next s.frameSent.settle

/-- The store is idle after a burst of a requester, if that was the burst in progress. -/
def State.burstOver (s : State) (r : Requester) (f : State → State) : State :=
  if s.store.burst = some r then f (s.setStore { s.store with burst := none }) else s

/-- A capture writer burst completes and the next is granted (R78, R76). Without such a burst in progress, nothing. -/
def execWriteBurstComplete (s : State) : Host.Outcome State Fault Refusal :=
  .next (s.burstOver .writer State.writeBurstDone).settle

/-- A link read burst completes and the next is granted (R190, R76). -/
def execLinkReadBurstComplete (s : State) : Host.Outcome State Fault Refusal :=
  .next (s.burstOver .link State.linkBurstDone).settle

/-- A Render Engine burst completes and the next is granted (R144, R145, R76). -/
def execRenderBurstComplete (s : State) : Host.Outcome State Fault Refusal :=
  .next (s.burstOver .render State.renderBurstDone).settle

end Sys2Proof.Machine
end

