-- ==== Sys2Proof/Machine/PortCommands.lean ====
section
/-! DEFINITION. The commands of the transport port (10): each takes effect at once and leaves its reply in the port. -/

namespace Sys2Proof.Machine

/-- The outcome of a command that has taken effect. -/
abbrev done (s : State) : Host.Outcome State Fault Refusal := .next s

/-- Leaves a reply to a transaction of the bytes received (R175, R207). -/
def State.reply (s : State) (received : List Nat) (st : Status) (b : ReplyBody) : State :=
  s.setPort { s.port with transaction := some (received.map (BitVec.ofNat 8)), reply := some ⟨st, b⟩ }

/-- The snapshot of STATUS (R177). -/
def State.snapshot (s : State) : Snapshot :=
  { position := s.motion.position, segment := segmentOf s.motion.position, span := spanOf s.motion.position
    sync := s.motion.sync, session := s.map.session, mode := s.motion.mode, speed := s.advisory.speed
    effective := s.advisory.effective, zone := s.advisory.zone, noticeCount := s.port.fifo.length, lost := s.port.lost
    queued := s.oldestQueued.isSome, taken := s.takenRequest, lastOutcome := s.requests.lastOutcome }

/-- STATUS (R177): the snapshot, and the lost flag is cleared. -/
def execStatus (s : State) : Host.Outcome State Fault Refusal :=
  let s1 := s.reply [1] .ok (.snapshot s.snapshot)
  done (s1.setPort { s1.port with lost := false })

/-- MOTION (R178, R3): the declared mode with its effects, or RANGE. -/
def execMotion (mode : Nat) (sensor : Level) (s : State) : Host.Outcome State Fault Refusal :=
  match readMode mode with
  | some m => done ((s.declareMode m sensor .motion).reply [2, mode] .ok (.mode (some m))).settle
  | none => done (s.reply [2, mode] .range (.mode none))

/-- TAKE (R111): the oldest QUEUED request is taken, or the reply is BUSY or NONE. The reply describes the queue as the
command found it, so the request it carries is QUEUED (R179). -/
def execTake (s : State) : Host.Outcome State Fault Refusal :=
  match s.takenRequest with
  | some r => done (s.reply [3] .busy (.request (some r)))
  | none =>
    match s.oldestQueued with
    | none => done (s.reply [3] .none (.request none))
    | some r =>
      let s1 := s.putRequest { r with state := .taken }
      let s2 := s1.setRequests { s1.requests with takeTimer := some s.takeStart, lastOutcome := none }
      done (s2.reply [3] .ok (.request (some r)))

/-- ABANDON (R118): the taken request ends ABANDONED; otherwise the refusal its id calls for. -/
def execAbandon (id : Nat) (s : State) : Host.Outcome State Fault Refusal :=
  if 1 ≤ id ∧ id ≤ 255 then
    match s.requestOf id with
    | some r =>
      if r.isTaken then done ((s.endRequest r .abandoned).reply [4, id] .ok (.range (some r.facts))).settle
      else done (s.reply [4, id] .none (.range none))
    | none =>
      done (s.reply [4, id] (if s.idState id = .neverIssued then .unknown else .tooLate) (.range none))
  else done (s.reply [4, id] .range (.range none))

/-- NOTICE (R182, R183): the oldest notice leaves the FIFO and is returned; the line falls with the last one. -/
def execNotice (s : State) : Host.Outcome State Fault Refusal :=
  match s.port.fifo with
  | n :: rest =>
    let s1 := s.setPort { s.port with fifo := rest, attention := !rest.isEmpty }
    done (s1.reply [5] .ok (.notice (some n) rest.length))
  | [] => done (s.reply [5] .none (.notice none 0))

/-- The eight segments AHEAD lists, nearest first (R104). -/
def aheadSegments (c : Int) (d : Dir) : List Int :=
  (List.range 8).map fun (i : Nat) =>
    match d with
    | .forward => c + 1 + i
    | .reverse => c - 1 - i

/-- One place of AHEAD: a segment with its advised score, or absent outside the map or beyond the tape end (R104). -/
def State.aheadPlace (s : State) (c : Int) : Option (Nat × Nat) :=
  (s.advisable c).map fun g => (g, s.advisedScore g)

/-- AHEAD (R104, R180). -/
def execAhead (s : State) : Host.Outcome State Fault Refusal :=
  done (s.reply [6] .ok (.places ((aheadSegments (s.motion.position / 512) s.direction).map s.aheadPlace)))

/-- The Motion Tracker's part of a transport RESTART (R4). -/
def State.motionRestart (s : State) : State :=
  if s.motion.mode = .unloaded then s else s.declareMode .stop s.pins.sensor .restart

/-- Whether the two orders R123 allows differ: a pass is open and the taken request is ACTIVE. -/
def State.restartContested (s : State) : Bool :=
  s.capturing && s.takenRequest.any fun r => r.state = .active

/-- The parts of a transport RESTART that the Motion Tracker and the Request Queue have (R4, R123). Where their order
matters it is free (log 1). -/
def State.restartBlocks (s : State) : State :=
  if s.restartContested then
    if Config.closeReachesQueueFirst s.free then s.countFree.motionRestart.requestRestart
    else s.countFree.requestRestart.motionRestart
  else s.motionRestart.requestRestart

/-- RESTART from the transport (R184): the FIFO is emptied, the lost flag cleared, the line lowered; the Motion Tracker,
the Request Queue and the Advisory Unit have their parts. -/
def execTransportRestart (s : State) : Host.Outcome State Fault Refusal :=
  let s1 := s.setPort { s.port with fifo := [], lost := false, attention := false }
  let s2 := s1.restartBlocks
  let s3 := s2.setAdvisory { s2.advisory with zone := false }
  done (s3.reply [7] .ok .empty).settle

/-- A command byte that names no command (R176, R207): the single status byte UNKNOWN, no effect. -/
def execUnknownCommand (command : Nat) (s : State) : Host.Outcome State Fault Refusal :=
  done (s.reply [command] .unknown .empty)

/-- Select released before the command is complete (R176): the transaction is discarded, nothing is taken, no reply is
formed. -/
def execTransactionDiscarded (_received : List Byte) (s : State) : Host.Outcome State Fault Refusal :=
  done (s.setPort { s.port with transaction := none, reply := none })

end Sys2Proof.Machine
end

