-- ==== Sys2Proof/Machine/LinkOps.lean ====
section
/-! DEFINITION. Taking a command of the archive link (R187, R188): a place in the pending list, the effect, the answer. -/

namespace Sys2Proof.Machine

/-- Whether the pending list holds 16 commands (R187). -/
def State.listFull (s : State) : Bool := decide (Config.pendingMax ≤ s.link.commands.length)

/-- A frame discarded at a full pending list (R187). -/
def State.dropFrame (s : State) : State :=
  s.setLink { s.link with tallies := { s.link.tallies with dropped := satInc s.link.tallies.dropped Config.countMax } }

/-- A command joins the tail of the pending list with its answer (R188). -/
def State.enlist (s : State) (kind : Nat) (a : Answer) : State :=
  s.setLink { s.link with commands := s.link.commands ++ [⟨kind, a⟩] }

/-- A command joins the pending list with its response formed (R188). -/
def State.answer (s : State) (kind : Nat) (st : Status) (r : Result) : State :=
  s.enlist kind (.formed ⟨kind, st, r⟩ none)

/-- A command joins the pending list with its response a refusal, which carries no result fields (R203). -/
def State.refuse (s : State) (kind : Nat) (st : Status) : State := s.answer kind st .empty

/-- A read joins the pending list, accepted and in flight (R188). -/
def State.accept (s : State) (kind : Nat) (t : ReadTarget) : State := s.enlist kind (.reading ⟨t, 0, [], none⟩)

/-- Takes a command whose effect and answer are `act`: dropped at a full list, otherwise it acts at once (R187, R188), and
the store and the transmitter go on (R76, R189). -/
def State.takeCommand (s : State) (act : State → State) : State :=
  if s.listFull then s.dropFrame else (act s).settle

/-- Whether a range of segments is refused RANGE: first > last or last ≥ 4,096 (R74, R75, R92, R108). -/
def badRange (first last : Nat) : Bool := decide (last < first) || decide (Config.segments ≤ last)

/-- The number of segments of a range. -/
def rangeLength (first last : Nat) : Nat := last + 1 - first

end Sys2Proof.Machine
end

