-- ==== Sys2Proof/Machine/LinkCommands.lean ====
section
/-! DEFINITION. The commands of the archive link on the profile, the strips, the tallies, the session, and RESTART
(11, 05). -/

namespace Sys2Proof.Machine

/-! ## Profile (R193, R171) -/

/-- The profile replaced; the advisory speed is raised to the new table's last speed if it is below (R171). -/
def State.loadProfile (s : State) (p : Profile) : State :=
  let s1 := s.setLink { s.link with profile := p }
  s1.setAdvisory { s1.advisory with speed := max s1.advisory.speed (lastPoint p.advisory.points).2 }

/-- PROFILE_LOAD with its answer (R193). An image that is not 52 bytes long is BAD_PROFILE before any test (R187). -/
def State.takeProfile (s : State) (image : List Byte) : State :=
  if image.length ≠ 52 then s.refuse 32 .badProfile
  else if s.capturing || s.render.job.isSome then s.refuse 32 .busy
  else
    match readProfile image with
    | some p => (s.loadProfile p).answer 32 .ok .empty
    | none => s.refuse 32 .badProfile

/-- PROFILE_LOAD (R193). -/
def execProfileLoad (image : List Byte) (s : State) : Host.Outcome State Fault Refusal :=
  .next (s.takeCommand fun s => s.takeProfile image)

/-- PROFILE_READ (R193). -/
def execProfileRead (s : State) : Host.Outcome State Fault Refusal :=
  .next (s.takeCommand fun s => s.answer 1 .ok (.profile s.link.profile))

/-! ## Strips (R191, R192) -/

/-- The refusal of STRIP_READ, if a test fails: the first in the order of R191. -/
def State.stripRefusal (s : State) (i : Nat) : Option Status :=
  if s.store.stripCount ≤ i then some .range
  else if (s.strip i).state = .vacant then some .notHeld
  else none

/-- STRIP_READ (R191). -/
def execStripRead (strip : Nat) (s : State) : Host.Outcome State Fault Refusal :=
  .next (s.takeCommand fun s =>
    match s.stripRefusal strip with
    | some c => s.refuse 4 c
    | none => s.accept 4 (.strip strip))

/-- The refusal of FETCH_RAW, if a test fails: the first in the order of R192. -/
def State.rawRefusal (s : State) (i e first count : Nat) : Option Status :=
  if s.store.stripCount ≤ i ∨ 7 < e ∨ count = 0 ∨ 21845 < count then some .range
  else if (s.strip i).state = .vacant then some .notHeld
  else if (s.strip i).frames.length < first + count then some .range
  else none

/-- FETCH_RAW (R192). -/
def execFetchRaw (strip element first count : Nat) (s : State) : Host.Outcome State Fault Refusal :=
  .next (s.takeCommand fun s =>
    match s.rawRefusal strip element first count with
    | some c => s.refuse 42 c
    | none => s.accept 42 (.raw strip element first count))

/-! ## Tallies (R196, R43) -/

/-- The sixteen tallies at 0. -/
def State.clearTallies (s : State) : State :=
  let s1 := s.setLink { s.link with tallies := ⟨0, 0, 0, 0, 0, 0, 0, 0⟩ }
  s1.setCapture { s1.capture with tallies := Oct.fill 0 }

/-- TALLY_READ (R196). -/
def execTallyRead (s : State) : Host.Outcome State Fault Refusal :=
  .next (s.takeCommand fun s => s.clearTallies.answer 6 .ok (.tallies s.link.tallies s.capture.tallies))

/-! ## NEW_TAPE (R96, R98, R99) -/

/-- The segment records after a map clear: blank but for the version, one higher (R99). -/
def State.clearedSegments (s : State) : Table Segment :=
  Table.tabulate Segment.blank (fun k => { Segment.blank with changes := (s.segment k).changes + 1 }) 0 Config.segments

/-- The map of a clear (R99). -/
def State.clearSegments (s : State) : State :=
  s.setMap { s.map with segments := s.clearedSegments, passCounter := 0, tapeEndSegment := none, counts := ⟨4096, 0, 0, 0⟩ }

/-- The store of a clear: every strip vacated, nothing left to write (R72, R79). A burst in progress completes (R76). -/
def State.clearStore (s : State) : State :=
  s.setStore { s.store with
    strips := [], ringPointer := 0, keptSegments := 0, keptStrips := 0, writeBuffer := [], recordWrites := []
    writeBurst := none }

/-- The Motion Tracker and the Capture Unit at a clear (R18, R24, R44). -/
def State.clearMotion (s : State) : State :=
  let s1 := s.setMotion { s.motion with
    sync := .unsynced, largestSlip := 0, slipCount := 0, syncFaults := 0, tapeEnd := none, run := none }
  s1.setCapture { s1.capture with limitNoticed := false }

/-- RENDER_ABORTED for each ASKED job of a list (R148). -/
def State.reportAborted (s : State) (l : List QueuedJob) : State :=
  l.foldl (fun s j => if j.asked then s.postWork (.renderAborted j.segment j.side .newTape) else s) s

/-- Rendering at a clear: the job in flight and the queue are ended, ASKED ones with a notice, and every slot is FREE
(R148, R163). -/
def State.clearRender (s : State) : State :=
  let s1 := (s.abortJob .newTape).reportAborted s.render.queue
  (s1.setRender ⟨[], false, none⟩).setSlots ⟨[], []⟩

/-- The session after NEW_TAPE (R96). -/
def Session.afterNewTape : Session → Session
  | .vacant => .vacant
  | .armed => .armed
  | .detached => .vacant
  | .stale => .armed

/-- The map clear, with the session set and reported (R99, R96). -/
def State.mapClear (s : State) : State :=
  let s1 := (s.cancelAll s.requests.queue).clearRender.evictReads fun _ => true
  let s2 := s1.clearSegments.clearStore.clearMotion
  s2.setSession s2.map.session.afterNewTape true

/-- NEW_TAPE (R98). -/
def execNewTape (s : State) : Host.Outcome State Fault Refusal :=
  .next (s.takeCommand fun s =>
    if s.capturing then s.refuse 7 .busy else s.mapClear.answer 7 .ok .empty)

/-! ## RESUME_TAPE (R100) -/

/-- The session resumed: ARMED, the map kept, UNSYNCED, no run (R96, R18). -/
def State.resumeSession (s : State) : State :=
  (s.setMotion { s.motion with sync := .unsynced, run := none }).setSession .armed false

/-- RESUME_TAPE (R100). -/
def execResumeTape (s : State) : Host.Outcome State Fault Refusal :=
  .next (s.takeCommand fun s =>
    match s.map.session with
    | .stale => s.resumeSession.answer 8 .ok .empty
    | .vacant => s.refuse 8 .state
    | .armed => s.refuse 8 .state
    | .detached => s.refuse 8 .state)

/-! ## RESTART of the workstation (R197) -/

/-- The frame under way when the pending list is emptied: it completes, but no command waits for it (R197 step 2). -/
def Transmission.release (t : Transmission) : Transmission :=
  match t.role with
  | .notice => t
  | .orphan => t
  | .response => { t with role := .orphan }
  | .data => { t with role := .orphan }

/-- The Archive Link's part: reads, pending list, notices and tallies gone (R197 steps 1 to 3). -/
def State.restartLink (s : State) : State :=
  s.setLink { s.link with
    tx := s.link.tx.map Transmission.release, commands := [], notices := [], lostNotices := 0
    tallies := ⟨0, 0, 0, 0, 0, 0, 0, 0⟩ }

/-- A segment record with both slot numbers absent, the unrecovered cells kept (R101). -/
def Segment.dropSlots (r : Segment) : Segment :=
  { r with rendition := ⟨{ r.rendition.a with slot := none }, { r.rendition.b with slot := none }⟩ }

/-- Rendering at a workstation RESTART: the job in flight, the queue and every slot are gone without a notice (R147, R163,
R101). -/
def State.restartRender (s : State) : State :=
  let s1 := (s.setRender ⟨[], false, none⟩).setSlots ⟨[], []⟩
  s1.setMap { s1.map with segments := Table.mapValues Segment.blank Segment.dropSlots s1.map.segments }

/-- The QUEUED requests removed without a notice (R122). -/
def State.restartRequests (s : State) : State := s.removeAll (s.requests.queue.filter fun r => !r.isTaken)

/-- RESTART of the workstation, taken whatever the pending list holds (R197). -/
def execWorkstationRestart (s : State) : Host.Outcome State Fault Refusal :=
  .next ((s.restartLink.restartRequests.restartRender.answer 9 .ok .empty).postWork .restarted).settle

end Sys2Proof.Machine
end

