-- ==== Sys2Proof/Machine/MapCommands.lean ====
section
/-! DEFINITION. The commands of the archive link on the tape map: MAP_READ, MAP_SUMMARY, the six kinds of ANNOTATE, KEEP
and UNKEEP (05, 04). ANNOTATE is kind 34 (R203). -/

namespace Sys2Proof.Machine

/-! ## Reading the map (R102, R103) -/

/-- Whether MAP_READ is refused RANGE (R102). -/
def badMapRead (first count : Nat) : Bool :=
  decide (count = 0) || decide (16 < count) || decide (Config.segments < first + count)

/-- The records of `count` segments from `first` (R102). -/
def State.mapRecords (s : State) (first count : Nat) : List (Nat × Segment) :=
  (List.range count).map fun i => (first + i, s.segment (first + i))

/-- MAP_READ (R102). -/
def execMapRead (first count : Nat) (s : State) : Host.Outcome State Fault Refusal :=
  .next (s.takeCommand fun s =>
    if badMapRead first count then s.refuse 33 .range else s.answer 33 .ok (.records (s.mapRecords first count)))

/-- The items of MAP_SUMMARY as they stand (R103). -/
def State.summary (s : State) : Summary :=
  { session := s.map.session, passCounter := s.map.passCounter
    openPass := s.capture.pass.map fun p => (p.number, p.lastSegment)
    tapeEndSegment := s.map.tapeEndSegment, counts := s.map.counts
    entries := (s.map.segments.map fun e => e.2.entries.length).sum, stripCount := s.store.stripCount
    keptSegments := s.store.keptSegments, keptStrips := s.store.keptStrips, largestSlip := s.motion.largestSlip
    slipCount := s.motion.slipCount, syncFaults := s.motion.syncFaults }

/-- MAP_SUMMARY (R103). -/
def execMapSummary (s : State) : Host.Outcome State Fault Refusal :=
  .next (s.takeCommand fun s => s.answer 2 .ok (.summary s.summary))

/-! ## EXCLUDE and INCLUDE (R91) -/

/-- The entry of a pass with its exclude field set. -/
def Entry.setExclude (pass : Nat) (v : Bool) (e : Entry) : Entry :=
  if e.pass = pass then { e with fields := e.fields.map fun f => { f with exclude := v } } else e

/-- The segment record with the exclude field of a pass's entry set; the version increases by 1 (R91). -/
def Segment.setExclude (pass : Nat) (v : Bool) (r : Segment) : Segment :=
  { r with entries := r.entries.map (Entry.setExclude pass v) }.bump

/-- EXCLUDE or INCLUDE of a pass's entry, with its answer (R91). -/
def State.annotateExclude (s : State) (g pass : Nat) (v : Bool) : State :=
  if Config.segments ≤ g then s.refuse 34 .range
  else
    match (s.segment g).entries.find? fun e => e.pass = pass with
    | none => s.refuse 34 .notHeld
    | some e =>
      match e.fields with
      | none => s.refuse 34 .busy
      | some f =>
        let s1 := if f.exclude = v then s else s.modSegment g (Segment.setExclude pass v)
        s1.answer 34 .ok (.version (s1.segment g).version)

/-- EXCLUDE (R91). -/
def execExcludePass (segment pass : Nat) (s : State) : Host.Outcome State Fault Refusal :=
  .next (s.takeCommand fun s => s.annotateExclude segment pass true)

/-- INCLUDE (R91). -/
def execIncludePass (segment pass : Nat) (s : State) : Host.Outcome State Fault Refusal :=
  .next (s.takeCommand fun s => s.annotateExclude segment pass false)

/-! ## Operator hazard (R92) and splice marks (R93) -/

/-- Gives a range of segments an operator hazard, or none (R92). -/
def State.annotateHazard (s : State) (first last : Nat) (v : Option Nat) : State :=
  (s.modSegments (fun r => { r with operatorHazard := v }) first (rangeLength first last)).answer 34 .ok .empty

/-- SET_HAZARD (R92). A value above 255 is refused RANGE (log 13). -/
def execSetHazard (first last value : Nat) (s : State) : Host.Outcome State Fault Refusal :=
  .next (s.takeCommand fun s =>
    if badRange first last || decide (255 < value) then s.refuse 34 .range else s.annotateHazard first last (some value))

/-- CLEAR_HAZARD (R92). -/
def execClearHazard (first last : Nat) (s : State) : Host.Outcome State Fault Refusal :=
  .next (s.takeCommand fun s =>
    if badRange first last then s.refuse 34 .range else s.annotateHazard first last none)

/-- Gives a segment a splice mark at an offset, or none (R93). -/
def State.annotateSplice (s : State) (g : Nat) (v : Option Nat) : State :=
  (s.modSegment g fun r => { r with splice := v }).answer 34 .ok .empty

/-- SET_SPLICE (R93). -/
def execSetSplice (segment offset : Nat) (s : State) : Host.Outcome State Fault Refusal :=
  .next (s.takeCommand fun s =>
    if Config.segments ≤ segment ∨ 511 < offset then s.refuse 34 .range else s.annotateSplice segment (some offset))

/-- CLEAR_SPLICE (R93). -/
def execClearSplice (segment : Nat) (s : State) : Host.Outcome State Fault Refusal :=
  .next (s.takeCommand fun s =>
    if Config.segments ≤ segment then s.refuse 34 .range else s.annotateSplice segment none)

/-! ## Keep marks (R73 to R75) -/

/-- The segments of a range whose keep field is `v`. -/
def State.keptAs (s : State) (v : Bool) (first last : Nat) : List Nat :=
  ((List.range (rangeLength first last)).map fun i => first + i).filter fun g => (s.segment g).keep = v

/-- The strips, OPEN or HELD, that a list of segments holds: one for each entry (R65). -/
def State.stripsOf (s : State) (l : List Nat) : Nat := (l.map fun g => (s.segment g).entries.length).sum

/-- A range with its keep fields set (R74, R75). -/
def State.setKeep (s : State) (v : Bool) (first last : Nat) : State :=
  s.modSegments (fun r => { r with keep := v }) first (rangeLength first last)

/-- The keep counts replaced. -/
def State.setKeptCounts (s : State) (segments strips : Nat) : State :=
  s.setStore { s.store with keptSegments := segments, keptStrips := strips }

/-- KEEP within its range, with its answer (R74). -/
def State.keepRange (s : State) (first last : Nat) : State :=
  let l := s.keptAs false first last
  if s.store.stripCount / 4 < 4 * (s.store.keptSegments + l.length) then s.refuse 35 .keepLimit
  else
    let n := s.store.keptSegments + l.length
    ((s.setKeep true first last).setKeptCounts n (s.store.keptStrips + s.stripsOf l)).answer 35 .ok (.count n)

/-- KEEP (R74). -/
def execKeep (first last : Nat) (s : State) : Host.Outcome State Fault Refusal :=
  .next (s.takeCommand fun s => if badRange first last then s.refuse 35 .range else s.keepRange first last)

/-- UNKEEP within its range, with its answer (R75). -/
def State.unkeepRange (s : State) (first last : Nat) : State :=
  let l := s.keptAs true first last
  let n := s.store.keptSegments - l.length
  ((s.setKeep false first last).setKeptCounts n (s.store.keptStrips - s.stripsOf l)).answer 36 .ok (.count n)

/-- UNKEEP (R75). -/
def execUnkeep (first last : Nat) (s : State) : Host.Outcome State Fault Refusal :=
  .next (s.takeCommand fun s => if badRange first last then s.refuse 36 .range else s.unkeepRange first last)

end Sys2Proof.Machine
end

