-- ==== Sys2Proof/Machine/RenderCommands.lean ====
section
/-! DEFINITION. The commands of the archive link on renditions: RENDER, SLOT_READ, FETCH_RENDITION, SLOT_RELEASE
(07, 08). -/

namespace Sys2Proof.Machine

/-- The queued job of a segment and side made ASKED (R126). -/
def State.askQueued (s : State) (g : Nat) (sd : Side) : State :=
  s.setRender { s.render with
    queue := s.render.queue.map fun j => if j.segment = g ∧ j.side = sd then { j with asked := true } else j }

/-- RENDER of a segment of the map and a side, with its answer (R126 from the second test on). -/
def State.askRender (s : State) (g : Nat) (sd : Side) : State :=
  match s.currentSlot g sd with
  | some k => s.answer 39 .ok (.slot (some k))
  | none =>
    if s.queuedFor g sd then (s.askQueued g sd).answer 39 .ok (.slot none)
    else if !s.hasMaterial g then s.refuse 39 .notHeld
    else if Config.renderQueueMax ≤ s.render.queue.length then s.refuse 39 .full
    else (s.joinQueue ⟨g, sd, true⟩).answer 39 .ok (.slot none)

/-- RENDER (R126). -/
def execRender (segment side : Nat) (s : State) : Host.Outcome State Fault Refusal :=
  .next (s.takeCommand fun s =>
    match readSide side with
    | some sd => if Config.segments ≤ segment then s.refuse 39 .range else s.askRender segment sd
    | none => s.refuse 39 .range)

/-- A slot as SLOT_READ shows it (R159). -/
def State.slotView (s : State) (k : Nat) : SlotView :=
  match s.slot k with
  | .free => ⟨k, none, none, false, 0⟩
  | .filling h _ => ⟨k, some h, none, false, 0⟩
  | .ready h r _ => ⟨k, some h, some r, !s.isCurrent h, s.rank k⟩

/-- The number of READY slots whose fetched flag is set (R159). -/
def State.fetchedCount (s : State) : Nat :=
  ((List.range Config.slotCount).filter fun k => (s.slot k).isFetched).length

/-- SLOT_READ (R159). -/
def execSlotRead (first count : Nat) (s : State) : Host.Outcome State Fault Refusal :=
  .next (s.takeCommand fun s =>
    if count = 0 ∨ Config.slotCount < first + count then s.refuse 40 .range
    else
      s.answer 40 .ok
        (.slots s.render.headWaiting s.fetchedCount ((List.range count).map fun i => s.slotView (first + i))))

/-- The sample count of a READY slot, absent for a FREE or FILLING one. -/
def Slot.readyCount : Slot → Option Nat
  | .ready h _ _ => some h.sampleCount
  | .free => none
  | .filling _ _ => none

/-- The refusal of FETCH_RENDITION, if a test fails: the first in the order of R160. -/
def State.fetchRefusal (s : State) (k first count : Nat) : Option Status :=
  if 31 < k ∨ count = 0 ∨ 10922 < count then some .range
  else
    match (s.slot k).readyCount with
    | none => some .notHeld
    | some n => if n < first + count then some .range else none

/-- FETCH_RENDITION (R160). -/
def execFetchRendition (slot first count : Nat) (s : State) : Host.Outcome State Fault Refusal :=
  .next (s.takeCommand fun s =>
    match s.fetchRefusal slot first count with
    | some c => s.refuse 41 c
    | none => s.accept 41 (.rendition slot first count))

/-- Frees a READY slot (R157, R162). -/
def State.freeSlot (s : State) (k : Nat) : State := ((s.leaveReady k).setSlot k .free).slotAvailable

/-- SLOT_RELEASE with its answer (R162). -/
def State.releaseSlot (s : State) (k : Nat) : State :=
  if 31 < k then s.refuse 5 .range
  else
    match s.slot k with
    | .free => s.refuse 5 .notHeld
    | .filling _ _ => s.refuse 5 .busy
    | .ready _ _ _ => (s.freeSlot k).answer 5 .ok .empty

/-- SLOT_RELEASE (R162). -/
def execSlotRelease (slot : Nat) (s : State) : Host.Outcome State Fault Refusal :=
  .next (s.takeCommand fun s => s.releaseSlot slot)

end Sys2Proof.Machine
end

