-- ==== Sys2Proof/Machine/RequestCommands.lean ====
section
/-! DEFINITION. The commands of the archive link on re-read requests: REQUEST_APPEND, REQUEST_CANCEL, QUEUE_READ (06). -/

namespace Sys2Proof.Machine

/-- The refusal of REQUEST_APPEND, if a test fails: the first in the order of R108. -/
def State.appendRefusal (s : State) (first last : Nat) : Option Status :=
  if badRange first last || s.beyondTapeEnd last then some .range
  else if Config.requestMax ≤ s.requests.queue.length then some .full
  else if s.requests.queue.any fun r => r.first = first ∧ r.last = last then some .duplicate
  else if (List.range (rangeLength first last)).any fun i => s.worn (first + i) then some .worn
  else none

/-- Records an accepted request under an id (R107, R110 steps 1 and 2). -/
def State.recordRequest (s : State) (id first last : Nat) : State :=
  s.setRequests { s.requests with
    queue := s.requests.queue ++ [⟨id, first, last, first, .queued⟩]
    ids := Table.put IdState.neverIssued s.requests.ids id .live, lastId := id }

/-- The id the next accepted request takes (R107). -/
def State.nextId (s : State) : Nat := s.freeId 17 s.requests.lastId

/-- Accepts a request, with its answer (R110). -/
def State.acceptRequest (s : State) (first last : Nat) : State :=
  let id := s.nextId
  let s1 := s.recordRequest id first last
  let s2 := if s.oldestQueued.isNone then s1.postTransport (.requestQueued id) else s1
  s2.answer 37 .ok (.id id)

/-- REQUEST_APPEND (R108 to R110). -/
def execRequestAppend (first last : Nat) (s : State) : Host.Outcome State Fault Refusal :=
  .next (s.takeCommand fun s =>
    match s.appendRefusal first last with
    | some c => s.refuse 37 c
    | none => s.acceptRequest first last)

/-- REQUEST_CANCEL with its answer (R117). -/
def State.cancelRequest (s : State) (id : Nat) : State :=
  if 1 ≤ id ∧ id ≤ 255 then
    match s.requestOf id with
    | some r => (s.endRequest r .cancelled).answer 38 .ok .empty
    | none => s.refuse 38 (if s.idState id = .neverIssued then .unknown else .tooLate)
  else s.refuse 38 .range

/-- REQUEST_CANCEL (R117). -/
def execRequestCancel (id : Nat) (s : State) : Host.Outcome State Fault Refusal :=
  .next (s.takeCommand fun s => s.cancelRequest id)

/-- The queue as QUEUE_READ returns it (R121). -/
def State.queueView (s : State) : QueueView :=
  ⟨s.requests.lastId, s.requests.lastOutcome, s.requests.queue, s.requests.takeTimer⟩

/-- QUEUE_READ (R121). -/
def execQueueRead (s : State) : Host.Outcome State Fault Refusal :=
  .next (s.takeCommand fun s => s.answer 3 .ok (.queue s.queueView))

end Sys2Proof.Machine
end

