-- ==== Sys2Proof/Machine/Receiver.lean ====
section
/-! DEFINITION. Reception on the archive link: headers, the gap timer, complete frames (R186, R187, R201 to R203). -/

namespace Sys2Proof.Machine

/-! ## Bytes and headers (R186) -/

/-- The frame in reception that an accepted header of 24 data bits begins (R201): a long kind has its payload and two CRC
bytes still to come. -/
def acceptHeader (d : Nat) : RxFrame :=
  let kind := d % 64
  let fld := d / 256
  ⟨d % 256 / 64, kind, fld, if 32 ≤ kind then fld + 2 else 0, []⟩

/-- One more accepted after a correction. -/
def LinkTallies.countCorrected (t : LinkTallies) : LinkTallies :=
  { t with headerCorrected := satInc t.headerCorrected Config.countMax }

/-- One more uncorrectable header. -/
def LinkTallies.countLost (t : LinkTallies) : LinkTallies :=
  { t with headerLost := satInc t.headerLost Config.countMax }

/-- Judges a candidate header of four bytes (R186 table). -/
def Link.judgeHeader (l : Link) (h : List Byte) : Link :=
  let d := ofLe (h.take 3)
  match l.rx.state, classifyHeader d (ofLe (h.drop 3)) with
  | _, .noError => { l with rx := ⟨.framed, [], some (acceptHeader d)⟩ }
  | .framed, .corrected d' => { l with rx := ⟨.framed, [], some (acceptHeader d')⟩, tallies := l.tallies.countCorrected }
  | .framed, .uncorrectable => { l with rx := ⟨.hunt, h.drop 1, none⟩, tallies := l.tallies.countLost }
  | .hunt, .corrected _ => { l with rx := ⟨.hunt, h.drop 1, none⟩ }
  | .hunt, .uncorrectable => { l with rx := ⟨.hunt, h.drop 1, none⟩ }

/-- Whether a frame in reception is complete. -/
def RxFrame.complete (f : RxFrame) : Bool := decide (f.need ≤ f.bytes.length)

/-- Takes one byte from the line (R186): it joins the frame in reception, or the header in reception, whose fourth byte has
it judged. -/
def Link.takeByte (l : Link) (b : Byte) : Link :=
  match l.rx.frame with
  | some f => { l with rx := { l.rx with frame := some { f with bytes := f.bytes ++ [b] } } }
  | none =>
    let h := l.rx.held ++ [b]
    if h.length < 4 then { l with rx := { l.rx with held := h } } else l.judgeHeader h

/-- 10 ms with no byte (R186): a frame in reception that is incomplete after its header is discarded. -/
def execGapTimeout (s : State) : Host.Outcome State Fault Refusal :=
  match s.link.rx.frame with
  | some f =>
    if f.complete then .next s
    else
      .next (s.setLink { s.link with
        rx := ⟨.hunt, [], none⟩
        tallies := { s.link.tallies with truncated := satInc s.link.tallies.truncated Config.countMax } })
  | none => .next s

/-! ## Complete frames (R187) -/

/-- The payload length a long command kind requires (R203). -/
def payloadLength : Nat → Nat
  | 32 => 52
  | 33 => 3
  | 34 => 7
  | 35 => 4
  | 36 => 4
  | 37 => 4
  | 38 => 1
  | 39 => 3
  | 40 => 2
  | 41 => 6
  | 42 => 8
  | _ => 0

/-- Whether a kind is a command of the TD-4 (R203). -/
def isCommand (kind : Nat) : Bool := (decide (1 ≤ kind) && decide (kind ≤ 9)) || (decide (32 ≤ kind) && decide (kind ≤ 42))

/-- ANNOTATE by its annotation kind and three arguments; a kind of 6 or more is answered RANGE (R203). -/
def annotate (k a b c : Nat) (s : State) : Host.Outcome State Fault Refusal :=
  match k with
  | 0 => execExcludePass a b s
  | 1 => execIncludePass a b s
  | 2 => execSetHazard a b c s
  | 3 => execClearHazard a b s
  | 4 => execSetSplice a b s
  | 5 => execClearSplice a s
  | _ => .next (s.takeCommand fun s => s.refuse 34 .range)

/-- Takes the short command of a kind with the header's field (R203). -/
def takeShort (kind fld : Nat) (s : State) : Host.Outcome State Fault Refusal :=
  match kind with
  | 1 => execProfileRead s
  | 2 => execMapSummary s
  | 3 => execQueueRead s
  | 4 => execStripRead fld s
  | 5 => execSlotRelease fld s
  | 6 => execTallyRead s
  | 7 => execNewTape s
  | 8 => execResumeTape s
  | 9 => execWorkstationRestart s
  | _ => .next s

/-- Takes the long command of a kind with its payload (R203). -/
def takeLong (kind : Nat) (p : List Byte) (s : State) : Host.Outcome State Fault Refusal :=
  match kind with
  | 32 => execProfileLoad p s
  | 33 => execMapRead (field p 0 2) (field p 2 1) s
  | 34 => annotate (field p 0 1) (field p 1 2) (field p 3 2) (field p 5 2) s
  | 35 => execKeep (field p 0 2) (field p 2 2) s
  | 36 => execUnkeep (field p 0 2) (field p 2 2) s
  | 37 => execRequestAppend (field p 0 2) (field p 2 2) s
  | 38 => execRequestCancel (field p 0 1) s
  | 39 => execRender (field p 0 2) (field p 2 1) s
  | 40 => execSlotRead (field p 0 1) (field p 1 1) s
  | 41 => execFetchRendition (field p 0 1) (field p 1 3) (field p 4 2) s
  | 42 => execFetchRaw (field p 0 2) (field p 2 1) (field p 3 3) (field p 6 2) s
  | _ => .next s

/-- A frame answered UNKNOWN, and counted (R187). -/
def State.unknownKind (s : State) (kind : Nat) : State :=
  (s.setLink { s.link with
    tallies := { s.link.tallies with unknownKind := satInc s.link.tallies.unknownKind Config.countMax } }).refuse kind .unknown

/-- A frame answered CRC_ERROR, and counted (R187). -/
def State.payloadFailed (s : State) (kind : Nat) : State :=
  (s.setLink { s.link with
    tallies := { s.link.tallies with
      payloadFailed := satInc s.link.tallies.payloadFailed Config.countMax } }).refuse kind .crcError

/-- A frame on channel 2 or 3, discarded and counted (R187). -/
def State.otherChannel (s : State) : State :=
  s.setLink { s.link with
    tallies := { s.link.tallies with otherChannel := satInc s.link.tallies.otherChannel Config.countMax } }

/-- The payload of a complete long frame. -/
def RxFrame.payload (f : RxFrame) : List Byte := f.bytes.take f.field

/-- Whether the two CRC bytes of a complete long frame match its payload (R203). -/
def RxFrame.crcMatches (f : RxFrame) : Bool := decide ((crc f.payload).toNat = ofLe (f.bytes.drop f.field))

/-- The answer to a long frame whose payload length is wrong (R187). -/
def lengthStatus (kind : Nat) : Status := if kind = 32 then .badProfile else .range

/-- Sorts a complete frame of channel 0 and a command kind (R187 from the CRC on). -/
def sortCommand (f : RxFrame) (s : State) : Host.Outcome State Fault Refusal :=
  if f.kind < 32 then takeShort f.kind f.field s
  else if !f.crcMatches then .next (s.takeCommand fun s => s.payloadFailed f.kind)
  else if f.field ≠ payloadLength f.kind then .next (s.takeCommand fun s => s.refuse f.kind (lengthStatus f.kind))
  else takeLong f.kind f.payload s

/-- Sorts a complete frame by the first case of R187 that applies. -/
def sortFrame (f : RxFrame) (s : State) : Host.Outcome State Fault Refusal :=
  if 2 ≤ f.channel then .next s.otherChannel
  else if f.channel = 1 ∨ isCommand f.kind = false then .next (s.takeCommand fun s => s.unknownKind f.kind)
  else sortCommand f s

/-- Sorts the frame in reception if it is complete (R186, R187); the next byte begins a header. -/
def sortComplete (s : State) : Host.Outcome State Fault Refusal :=
  match s.link.rx.frame with
  | some f =>
    if f.complete then sortFrame f (s.setLink { s.link with rx := { s.link.rx with frame := none } }) else .next s
  | none => .next s

/-- Takes bytes from the line in order (R186). A frame that the byte before completed is sorted before the next is taken;
one that the last byte completes stands, complete, in the receiver. -/
def receive : List Byte → State → Host.Outcome State Fault Refusal
  | [], s => .next s
  | b :: bs, s =>
    match sortComplete s with
    | .next s1 => receive bs (s1.setLink (s1.link.takeByte b))
    | .fault f => .fault f
    | .refused r => .refused r

/-- The bytes of a header, or what is received of one (R186). A short frame, complete with its header, is sorted by the
row LINK_FRAME that follows, or before the next byte (log 15). -/
def execLinkHeader (bytes : List Byte) (s : State) : Host.Outcome State Fault Refusal := receive bytes s

/-- The rest of a frame after its header (R186, R187): the bytes are taken, and a frame that is complete is sorted. -/
def execLinkFrame (bytes : List Byte) (s : State) : Host.Outcome State Fault Refusal :=
  match receive bytes s with
  | .next s1 => sortComplete s1
  | .fault f => .fault f
  | .refused r => .refused r

end Sys2Proof.Machine
end

