-- ==== Sys2Proof/Machine/Dispatch.lean ====
section
/-! DEFINITION. One arm for each command and event: its meaning. -/

namespace Sys2Proof.Machine

def exec (i : Instr) (s : State) : Host.Outcome State Fault Refusal :=
  match i with
  | .powerOnReset strap sensor => Sys2Proof.Machine.execPowerOnReset strap sensor s
  | .tachometerPulse dir sensor => Sys2Proof.Machine.execTachometerPulse dir sensor s
  | .elementFrame bytes => Sys2Proof.Machine.execElementFrame bytes s
  | .inputTimerExpiry => Sys2Proof.Machine.execInputTimerExpiry s
  | .takeTimerExpiry => Sys2Proof.Machine.execTakeTimerExpiry s
  | .status => Sys2Proof.Machine.execStatus s
  | .motion mode sensor => Sys2Proof.Machine.execMotion mode sensor s
  | .take => Sys2Proof.Machine.execTake s
  | .abandon id => Sys2Proof.Machine.execAbandon id s
  | .notice => Sys2Proof.Machine.execNotice s
  | .ahead => Sys2Proof.Machine.execAhead s
  | .transportRestart => Sys2Proof.Machine.execTransportRestart s
  | .unknownCommand command => Sys2Proof.Machine.execUnknownCommand command s
  | .transactionDiscarded received => Sys2Proof.Machine.execTransactionDiscarded received s
  | .linkHeader bytes => Sys2Proof.Machine.execLinkHeader bytes s
  | .gapTimeout => Sys2Proof.Machine.execGapTimeout s
  | .linkFrame bytes => Sys2Proof.Machine.execLinkFrame bytes s
  | .profileLoad image => Sys2Proof.Machine.execProfileLoad image s
  | .profileRead => Sys2Proof.Machine.execProfileRead s
  | .mapRead first count => Sys2Proof.Machine.execMapRead first count s
  | .mapSummary => Sys2Proof.Machine.execMapSummary s
  | .excludePass segment pass => Sys2Proof.Machine.execExcludePass segment pass s
  | .includePass segment pass => Sys2Proof.Machine.execIncludePass segment pass s
  | .setHazard first last value => Sys2Proof.Machine.execSetHazard first last value s
  | .clearHazard first last => Sys2Proof.Machine.execClearHazard first last s
  | .setSplice segment offset => Sys2Proof.Machine.execSetSplice segment offset s
  | .clearSplice segment => Sys2Proof.Machine.execClearSplice segment s
  | .keep first last => Sys2Proof.Machine.execKeep first last s
  | .unkeep first last => Sys2Proof.Machine.execUnkeep first last s
  | .requestAppend first last => Sys2Proof.Machine.execRequestAppend first last s
  | .requestCancel id => Sys2Proof.Machine.execRequestCancel id s
  | .queueRead => Sys2Proof.Machine.execQueueRead s
  | .render segment side => Sys2Proof.Machine.execRender segment side s
  | .slotRead first count => Sys2Proof.Machine.execSlotRead first count s
  | .fetchRendition slot first count => Sys2Proof.Machine.execFetchRendition slot first count s
  | .slotRelease slot => Sys2Proof.Machine.execSlotRelease slot s
  | .stripRead strip => Sys2Proof.Machine.execStripRead strip s
  | .fetchRaw strip element first count => Sys2Proof.Machine.execFetchRaw strip element first count s
  | .tallyRead => Sys2Proof.Machine.execTallyRead s
  | .newTape => Sys2Proof.Machine.execNewTape s
  | .resumeTape => Sys2Proof.Machine.execResumeTape s
  | .workstationRestart => Sys2Proof.Machine.execWorkstationRestart s
  | .linkFrameSent => Sys2Proof.Machine.execLinkFrameSent s
  | .writeBurstComplete => Sys2Proof.Machine.execWriteBurstComplete s
  | .linkReadBurstComplete => Sys2Proof.Machine.execLinkReadBurstComplete s
  | .renderBurstComplete => Sys2Proof.Machine.execRenderBurstComplete s

end Sys2Proof.Machine
end

