-- ==== Sys2Proof/Machine/Encode.lean ====
section
/-! DEFINITION. How each command stands on its port: the frame the workstation sends for a command of the archive link
(R203), and the bytes of a transport command, written and read (R175, R206). -/

namespace Sys2Proof.Machine

/-- A frame of channel 0 as the workstation sends it. A short kind has no payload. -/
structure CommandFrame where
  kind : Nat
  field : Nat
  payload : List Byte
deriving DecidableEq, Repr

/-- A short command. -/
def shortFrame (kind fld : Nat) : Option CommandFrame := some ⟨kind, fld, []⟩

/-- A long command: the field is the length of its payload (R201). -/
def longFrame (kind : Nat) (p : List Byte) : Option CommandFrame := some ⟨kind, p.length, p⟩

/-- ANNOTATE of an annotation kind with its three arguments. -/
def annotateFrame (k a b c : Nat) : Option CommandFrame := longFrame 34 (le 1 k ++ le 2 a ++ le 2 b ++ le 2 c)

/-- The frame of a link command, absent for every other event. -/
def commandFrame : Instr → Option CommandFrame
  | .profileRead => shortFrame 1 0
  | .mapSummary => shortFrame 2 0
  | .queueRead => shortFrame 3 0
  | .stripRead i => shortFrame 4 i
  | .slotRelease k => shortFrame 5 k
  | .tallyRead => shortFrame 6 0
  | .newTape => shortFrame 7 0
  | .resumeTape => shortFrame 8 0
  | .workstationRestart => shortFrame 9 0
  | .profileLoad image => longFrame 32 image
  | .mapRead first count => longFrame 33 (le 2 first ++ le 1 count)
  | .excludePass g p => annotateFrame 0 g p 0
  | .includePass g p => annotateFrame 1 g p 0
  | .setHazard first last v => annotateFrame 2 first last v
  | .clearHazard first last => annotateFrame 3 first last 0
  | .setSplice g o => annotateFrame 4 g o 0
  | .clearSplice g => annotateFrame 5 g 0 0
  | .keep first last => longFrame 35 (le 2 first ++ le 2 last)
  | .unkeep first last => longFrame 36 (le 2 first ++ le 2 last)
  | .requestAppend first last => longFrame 37 (le 2 first ++ le 2 last)
  | .requestCancel id => longFrame 38 (le 1 id)
  | .render g sd => longFrame 39 (le 2 g ++ le 1 sd)
  | .slotRead first count => longFrame 40 (le 1 first ++ le 1 count)
  | .fetchRendition k f c => longFrame 41 (le 1 k ++ le 3 f ++ le 2 c)
  | .fetchRaw i e f c => longFrame 42 (le 2 i ++ le 1 e ++ le 3 f ++ le 2 c)
  | .powerOnReset _ _ => none
  | .tachometerPulse _ _ => none
  | .elementFrame _ => none
  | .inputTimerExpiry => none
  | .takeTimerExpiry => none
  | .status => none
  | .motion _ _ => none
  | .take => none
  | .abandon _ => none
  | .notice => none
  | .ahead => none
  | .transportRestart => none
  | .unknownCommand _ => none
  | .transactionDiscarded _ => none
  | .linkHeader _ => none
  | .gapTimeout => none
  | .linkFrame _ => none
  | .linkFrameSent => none
  | .writeBurstComplete => none
  | .linkReadBurstComplete => none
  | .renderBurstComplete => none

/-- The bytes of a transport command's transaction up to the taking of the command (R206), absent for every other event. -/
def transactionBytes : Instr → Option (List Nat)
  | .status => some [1]
  | .motion mode _ => some [2, mode]
  | .take => some [3]
  | .abandon id => some [4, id]
  | .notice => some [5]
  | .ahead => some [6]
  | .transportRestart => some [7]
  | .unknownCommand c => some [c]
  | .powerOnReset _ _ => none
  | .tachometerPulse _ _ => none
  | .elementFrame _ => none
  | .inputTimerExpiry => none
  | .takeTimerExpiry => none
  | .transactionDiscarded _ => none
  | .linkHeader _ => none
  | .gapTimeout => none
  | .linkFrame _ => none
  | .profileLoad _ => none
  | .profileRead => none
  | .mapRead _ _ => none
  | .mapSummary => none
  | .excludePass _ _ => none
  | .includePass _ _ => none
  | .setHazard _ _ _ => none
  | .clearHazard _ _ => none
  | .setSplice _ _ => none
  | .clearSplice _ => none
  | .keep _ _ => none
  | .unkeep _ _ => none
  | .requestAppend _ _ => none
  | .requestCancel _ => none
  | .queueRead => none
  | .render _ _ => none
  | .slotRead _ _ => none
  | .fetchRendition _ _ _ => none
  | .slotRelease _ => none
  | .stripRead _ => none
  | .fetchRaw _ _ _ _ => none
  | .tallyRead => none
  | .newTape => none
  | .resumeTape => none
  | .workstationRestart => none
  | .linkFrameSent => none
  | .writeBurstComplete => none
  | .linkReadBurstComplete => none
  | .renderBurstComplete => none

/-- The argument bytes that follow a command byte (R206). An unknown one is taken at once (R207). -/
def argumentBytes : Nat → Nat
  | 2 => 1
  | 4 => 1
  | _ => 0

/-- The command of a command byte with its argument, and the level the mark sensor shows, which a load samples (R206). -/
def commandOf (sensor : Level) (code argument : Nat) : Instr :=
  match code with
  | 1 => .status
  | 2 => .motion argument sensor
  | 3 => .take
  | 4 => .abandon argument
  | 5 => .notice
  | 6 => .ahead
  | 7 => .transportRestart
  | c => .unknownCommand c

/-- The command taken in a transaction of which the bytes given have been received: none while its last byte is still to
come, and the bytes after that one are ignored (R175). -/
def transactionCommand (sensor : Level) : List Byte → Option Instr
  | [] => none
  | c :: args =>
    if args.length < argumentBytes c.toNat then none
    else some (commandOf sensor c.toNat (((args.head?).map (·.toNat)).getD 0))

/-- The event a transaction is, ended by the release of select after the bytes given: its command, or a transaction
discarded (R175, R176). -/
def transactionEvent (sensor : Level) (received : List Byte) : Instr :=
  (transactionCommand sensor received).getD (.transactionDiscarded received)

/-- The four header bytes of a command's frame. -/
def CommandFrame.header (f : CommandFrame) : List Byte := headerBytes 0 f.kind f.field

/-- The bytes after the header: none for a short kind, the payload and its CRC for a long one. -/
def CommandFrame.rest (f : CommandFrame) : List Byte :=
  if f.kind < 32 then [] else f.payload ++ le 2 (crc f.payload).toNat

end Sys2Proof.Machine
end

