-- ==== Sys2Proof/Safety.lean ====
section
/-! DEFINITION. The terms claims are made in: which parts of the state an event leaves alone once the arbiter and the
transmitter have gone on, what a command's answer adds to the pending list, and the invariants of the reference. -/

namespace Sys2Proof.Machine

/-! ## After an event the store grants and the transmitter sends -/

/-- A pending command, but for the burst its read may have been granted. -/
def PendingCommand.atRest (c : PendingCommand) : PendingCommand :=
  match c.answer with
  | .reading r => { c with answer := .reading { r with burst := none } }
  | .formed _ _ => c

/-- A job, but for the burst it may have been granted. -/
def Job.atRest (j : Job) : Job := { j with bursting := false }

/-- Store `y` is store `x` after at most one grant: only the arbiter's own fields differ, and a busy store is as it was
(R76, R77). -/
structure StoreSettled (x y : Store) : Prop where
  count : y.stripCount = x.stripCount
  strips : y.strips = x.strips
  pointer : y.ringPointer = x.ringPointer
  keptSegments : y.keptSegments = x.keptSegments
  keptStrips : y.keptStrips = x.keptStrips
  buffer : y.writeBuffer = x.writeBuffer
  busy : x.burst ≠ none → y = x

/-- The Render Engine's state after at most one grant. -/
structure RenderSettled (x y : Render) : Prop where
  queue : y.queue = x.queue
  waiting : y.headWaiting = x.headWaiting
  job : y.job.map Job.atRest = x.job.map Job.atRest

/-- The Archive Link's state after at most one grant and at most one choice of the transmitter: the pending list keeps its
commands and answers, and a notice leaves the list only into an idle transmitter (R189, R195). -/
structure LinkSettled (x y : Link) : Prop where
  receiver : y.rx = x.rx
  profile : y.profile = x.profile
  tallies : y.tallies = x.tallies
  commands : y.commands.map PendingCommand.atRest = x.commands.map PendingCommand.atRest
  sending : x.tx ≠ none → y.tx = x.tx ∧ y.notices = x.notices ∧ y.lostNotices = x.lostNotices
  notices : (y.notices = x.notices ∧ y.lostNotices = x.lostNotices) ∨
    (y.lostNotices = 0 ∧ ∃ n, x.notices = n :: y.notices ∧ y.tx = some ⟨.notice, n.frame x.lostNotices⟩)

/-- `t` is `u` once an idle store has granted a burst and an idle transmitter has begun a frame: every other piece of
state is the same. -/
structure Settled (u t : State) : Prop where
  pins : t.pins = u.pins
  motion : t.motion = u.motion
  capture : t.capture = u.capture
  timebase : t.timebase = u.timebase
  store : StoreSettled u.store t.store
  map : t.map = u.map
  requests : t.requests = u.requests
  render : RenderSettled u.render t.render
  slots : t.slots = u.slots
  advisory : t.advisory = u.advisory
  port : t.port = u.port
  link : LinkSettled u.link t.link
  free : t.free = u.free
  pending : t.pending = u.pending

/-- The store is served: it is idle only while nobody asks it for a burst (R76). Every event leaves it so; that a burst's
completion does, whose requester may ask again at once, is DEDUCED (log 23). -/
def State.storeServed (s : State) : Prop :=
  s.store.burst = none → s.writerRequest = none ∧ s.renderWants = false ∧ s.linkWants = false

/-- The line is served: the transmitter is idle only while no notice waits and the head of the pending list, if any, has no
formed response (R189, R195). Every event leaves it so. -/
def State.lineServed (s : State) : Prop :=
  s.link.tx = none → s.link.notices = [] ∧ ∀ c, s.link.commands.head? = some c → ∃ r, c.answer = .reading r

/-- The command completes from `s`, and leaves `u` but for what the arbiter and the transmitter then begin. From a state
where both are served, as every event leaves one, the next state is exactly `u` settled: `u` with the grant of R77 made if
the store is idle, and then the frame of R189 begun if the transmitter is. -/
def Completes (c : Instr) (s u : State) : Prop :=
  ∃ t, exec c s = .next t ∧ Settled u t ∧ (s.storeServed → s.lineServed → t = u.settle)

/-! ## Answers on the archive link -/

/-- The link with a formed response at the tail of its pending list. -/
def Link.answered (l : Link) (kind : Nat) (st : Status) (r : Result) : Link :=
  { l with commands := l.commands ++ [⟨kind, .formed ⟨kind, st, r⟩ none⟩] }

/-- The link with a read in flight at the tail of its pending list. -/
def Link.reading (l : Link) (kind : Nat) (t : ReadTarget) : Link :=
  { l with commands := l.commands ++ [⟨kind, .reading ⟨t, 0, [], none⟩⟩] }

/-- The state with nothing changed but a response at the tail of the pending list. -/
def State.answering (s : State) (kind : Nat) (st : Status) (r : Result) : State :=
  { s with link := s.link.answered kind st r }

/-- Whether the pending list has room. -/
def State.hasRoom (s : State) : Prop := s.link.commands.length < 16

/-- The link with a notice posted to the workstation: at the tail of the list, or lost and counted at a list of 32 (R195). -/
def Link.posted (l : Link) (n : WorkNotice) : Link :=
  if l.notices.length < 32 then { l with notices := l.notices ++ [n] }
  else
    { l with
      lostNotices := min (l.lostNotices + 1) 65535
      tallies := { l.tallies with noticesLost := min (l.tallies.noticesLost + 1) 65535 } }

/-- The link after a list of notices posted in order. -/
def Link.postedAll (l : Link) (ns : List WorkNotice) : Link := ns.foldl Link.posted l

/-- A notice that has been posted: it stands in the list, or the list was full (R195). -/
def Link.reported (l : Link) (n : WorkNotice) : Prop := n ∈ l.notices ∨ 32 ≤ l.notices.length

/-- The link with every strip read and raw fetch of strip `i` in flight ended EVICTED (R70 to R72). -/
def Link.readsEvicted (l : Link) (i : Nat) : Link :=
  { l with commands := l.commands.map fun (x : PendingCommand) =>
      match x.answer with
      | .reading ⟨.strip k, _, _, _⟩ => if k = i then ⟨x.kind, .formed ⟨x.kind, .evicted, .empty⟩ none⟩ else x
      | .reading ⟨.raw k _ _ _, _, _, _⟩ => if k = i then ⟨x.kind, .formed ⟨x.kind, .evicted, .empty⟩ none⟩ else x
      | _ => x }

/-- The link with every rendition fetch of slot `k` in flight ended EVICTED (R157 step 3). -/
def Link.fetchesEvicted (l : Link) (k : Nat) : Link :=
  { l with commands := l.commands.map fun (x : PendingCommand) =>
      match x.answer with
      | .reading ⟨.rendition i _ _, _, _, _⟩ => if i = k then ⟨x.kind, .formed ⟨x.kind, .evicted, .empty⟩ none⟩ else x
      | _ => x }

/-- The port with a notice posted to the transport: at the tail of the FIFO with the line raised, or lost and flagged at a
FIFO of 8 (R181, R183). -/
def Port.posted (p : Port) (n : TransportNotice) : Port :=
  if p.fifo.length < 8 then { p with fifo := p.fifo ++ [n], attention := true } else { p with lost := true }

/-- The port with the reply to a transaction of the bytes given (R175, R207). -/
def Port.replying (p : Port) (received : List Nat) (st : Status) (b : ReplyBody) : Port :=
  { p with transaction := some (received.map (BitVec.ofNat 8)), reply := some ⟨st, b⟩ }

/-! ## Pulses -/

/-- The state after a pulse in a direction, but for what the boundaries, the sensor and the wear then do: the position one
on, the direction kept, the high-water position of an open pass raised, the span in progress marked BACKTRACK by a reverse
pulse of an open pass (R1, R15). -/
def State.stepped (s : State) (d : Dir) (level : Level) : State :=
  let q := match d with | .forward => s.motion.position + 1 | .reverse => s.motion.position - 1
  { s with
    pins := { s.pins with sensor := level }
    motion := { s.motion with
      position := q, lastDir := some d, high := s.motion.high.map fun h => ⟨max h.position q, h.next⟩ }
    capture := { s.capture with
      span := if s.capture.pass.isSome = true ∧ d = .reverse then
          s.capture.span.map fun x => { x with backtrack := true }
        else s.capture.span } }

/-- The state with the sensor's fields as given: edge travel, recorded level, clear interval (R5, R6). -/
def State.sensed (s : State) (travel : Nat) (level : Level) (interval : Option ClearInterval) : State :=
  { s with motion := { s.motion with edgeTravel := travel, sensorLevel := level, clearInterval := interval } }

/-- What the mark sensor is left with at a counted pulse that finds no mark: the edge travel, the recorded level and the clear
interval (R5 to R8). No edge is accepted and the test of R7 is not met; or an edge into clear tape opens an interval at the new
position; or an edge into opaque tape closes one that R8's table calls no mark. -/
def State.findsNoMark (s : State) (d : Dir) (level : Level) (travel : Nat) (recorded : Level)
    (interval : Option ClearInterval) : Prop :=
  let q := match d with | .forward => s.motion.position + 1 | .reverse => s.motion.position - 1
  ((level = s.motion.sensorLevel ∨ s.motion.edgeTravel < 15) ∧
    (∀ e, s.motion.clearInterval = some ⟨.forwardEdge e, false⟩ → q < e + 64) ∧
    (∀ e, s.motion.clearInterval = some ⟨.reverseEdge e, false⟩ → e - 64 < q) ∧
    travel = min (s.motion.edgeTravel + 1) 16 ∧ recorded = s.motion.sensorLevel ∧ interval = s.motion.clearInterval) ∨
  (s.motion.sensorLevel = .opaqueTape ∧ level = .clearTape ∧ 15 ≤ s.motion.edgeTravel ∧
    travel = 0 ∧ recorded = .clearTape ∧
    interval = some ⟨match d with | .forward => .forwardEdge q | .reverse => .reverseEdge q, false⟩) ∨
  (s.motion.sensorLevel = .clearTape ∧ level = .opaqueTape ∧ 15 ≤ s.motion.edgeTravel ∧
    (s.motion.clearInterval = none ∨ (∃ e, s.motion.clearInterval = some ⟨.forwardEdge e, true⟩) ∨
      (d = .reverse ∧ (s.motion.clearInterval = some ⟨.load, true⟩ ∨
        (∃ e, s.motion.clearInterval = some ⟨.reverseEdge e, true⟩) ∨
        ∃ e, s.motion.clearInterval = some ⟨.forwardEdge e, false⟩)) ∨
      (d = .forward ∧ ∃ e, s.motion.clearInterval = some ⟨.reverseEdge e, false⟩)) ∧
    travel = 0 ∧ recorded = .opaqueTape ∧ interval = none)

/-- A counted pulse in a direction is quiet: it stays within the limits and crosses no boundary, and under an open pass its
high-water position stays below the next boundary and the tape end, and its position at 0 or above (R1, R14, R15, R41). -/
structure State.quietPulse (s : State) (d : Dir) : Prop where
  loaded : s.motion.mode ≠ .unloaded
  high : s.motion.high.isSome = s.capture.pass.isSome
  limits : -8388608 ≤ (s.stepped d s.pins.sensor).motion.position ∧ (s.stepped d s.pins.sensor).motion.position ≤ 8388607
  idle : s.capture.pass = none →
    (match d with | .forward => s.motion.position + 1 | .reverse => s.motion.position) % 32 ≠ 0
  recording : ∀ h, (s.stepped d s.pins.sensor).motion.high = some h →
    0 ≤ (s.stepped d s.pins.sensor).motion.position ∧ (d = .forward → h.position < h.next) ∧
      ∀ e, s.motion.tapeEnd = some e → h.position < e

/-! ## Segment entry -/

/-- A segment record with its state set by R81. -/
def Segment.restated (r : Segment) : Segment := { r with state := r.derive }

/-- `x` is `s` without the entry of a pass in segment `g`, whose strip `i` is vacated (R72, R73, R86): one more change of the
segment, the strip VACANT and blank (log 14), the kept-strip count lower by one for a kept owner, the link's reads of the
strip ended EVICTED. The Render Engine is told after it (log 20). -/
structure EntryVacated (s x : State) (g pass i : Nat) : Prop where
  segment : x.segment g = { s.segment g with
    entries := (s.segment g).entries.filter fun e => e.pass ≠ pass, changes := (s.segment g).changes + 1 }.restated
  others : ∀ k, k ≠ g → x.segment k = s.segment k
  strip : x.strip i = ⟨.vacant, none, none, [], [], []⟩
  strips : ∀ k, k ≠ i → x.strip k = s.strip k
  rest : x = { s with
    map := { s.map with segments := x.map.segments, counts := x.map.counts }
    store := { s.store with
      strips := x.store.strips
      keptStrips := if (s.strip i).owner.any fun o => (s.segment o.1).keep then s.store.keptStrips - 1
        else s.store.keptStrips }
    link := s.link.readsEvicted i }

/-- `r` is `s` with room for an entry in segment `g` (R83 step 1): `s` itself below four entries, else without the victim of
R84, its strip vacated and a job that reads it aborted. -/
structure RoomMade (s r : State) (g : Nat) : Prop where
  room : (s.segment g).entries.length < 4 → r = s
  victim : ∀ v, 4 ≤ (s.segment g).entries.length → victimOf (s.segment g).entries = some v →
    ∃ x, EntryVacated s x g v.pass v.strip ∧ r = x.jobStripLost v.strip

/-- `y` is `r` with strip `i`, the ring's (R69), taken for segment `g` and a pass: the pointer one past it, the strip OPEN
with its descriptor from the open pass's settings and a span table of records UNREACHED (R67), the next field of the strip
left naming it, the kept-strip count higher by one for a kept segment, writes of the strip's former life dropped (log 8). No
record write is asked for, neither for the new strip nor for that next field (DESIGN CHOICE, log 18). -/
structure StripTaken (r y : State) (g pass i : Nat) (previous : Option Nat) : Prop where
  ring : i = r.ringScan
  strip : ∀ tb, r.timebase = some tb → y.strip i =
    { state := .opened, owner := some (g, pass)
      descriptor := some
        { timebase := tb.settings, tTach := tb.tTach, capture := r.capture.settings, overrun := false, ended := false
          previous := previous, next := none }
      spans := List.replicate 16
        { validity := .unreached, backtrack := false, first := 0, frames := 0, residue := none, means := Oct.fill 0
          overload := Oct.fill 0, dropped := Oct.fill 0, cells := 0, quality := Oct.fill 0, timebase := none }
      dropout := [], frames := [] }
  left : ∀ p, previous = some p → p ≠ i → (r.strip p).state ≠ .vacant → y.strip p =
    { r.strip p with descriptor := (r.strip p).descriptor.map fun d => { d with next := some i } }
  strips : ∀ k, k ≠ i → (previous = some k → (r.strip k).state = .vacant) → y.strip k = r.strip k
  rest : y = { r with store := { r.store with
    ringPointer := (i + 1) % r.store.stripCount
    keptStrips := r.store.keptStrips + (r.segment g).keep.toNat
    writeBuffer := r.store.writeBuffer.filter fun w => w.1 ≠ i
    recordWrites := r.store.recordWrites.filter fun w => w.1 ≠ i
    writeBurst := r.store.writeBurst.filter fun b => b.strip ≠ i
    strips := y.store.strips } }

/-- `z` is `y` once the former life of strip `i`, which stands in `r`, is evicted (R70, R87): of a HELD strip, the entry of
its owner is removed, with one more change of that segment and SEGMENT_GONE where it goes GONE and is not the segment `g`
being entered (R81), the link's reads of the strip end EVICTED, and then a job that reads it is aborted (log 20). -/
structure FormerEvicted (r y z : State) (g i : Nat) : Prop where
  vacant : (r.strip i).state ≠ .held ∨ (r.strip i).owner = none → z = y
  held : ∀ h q, (r.strip i).state = .held → (r.strip i).owner = some (h, q) →
    ∃ x : State, x.segment h = { y.segment h with
        entries := (y.segment h).entries.filter fun e => e.pass ≠ q, changes := (y.segment h).changes + 1 }.restated ∧
      (∀ k, k ≠ h → x.segment k = y.segment k) ∧
      x = { y with
        map := { y.map with segments := x.map.segments, counts := x.map.counts }
        link := (if (x.segment h).state = .gone ∧ h ≠ g then y.link.posted (.segmentGone h) else y.link).readsEvicted i } ∧
      z = x.jobStripLost i

/-- `w` is `z` with the open entry of a pass, naming strip `i`, at the tail of segment `g`'s list: one more change, and the
segment OPEN (R83 step 3). -/
structure EntryListed (z w : State) (g pass i : Nat) : Prop where
  segment : w.segment g = { z.segment g with
    entries := (z.segment g).entries ++ [(⟨pass, i, none⟩ : Entry)], changes := (z.segment g).changes + 1 }.restated
  opened : (w.segment g).state = .opened
  others : ∀ k, k ≠ g → w.segment k = z.segment k
  rest : w = { z with map := { z.map with segments := w.map.segments, counts := w.map.counts } }

/-- `u` is `s` with segment `g` entered by a pass in strip `i` (R83, R69, R112): room made, the strip taken from the ring,
its former life evicted, the entry listed, and the segment given to the request queue. -/
def SegmentEntered (s u : State) (g pass i : Nat) (previous : Option Nat) : Prop :=
  ∃ r y z w : State, RoomMade s r g ∧ StripTaken r y g pass i previous ∧ FormerEvicted r y z g i ∧
    EntryListed z w g pass i ∧ u = w.requestEntered g

/-! ## Passes and slots -/

/-- The Timebase Unit as a pass starts under the settings `p` (R45, R46). -/
def TimebaseSettings.atStart (p : TimebaseSettings) : Timebase :=
  let t := (3200 * 96000 * 65536 + p.speed / 2) / p.speed
  let side : Source → SideTimebase := fun x => ⟨if x = .tach then .tach else .unlocked, 0, 0, t, 0⟩
  ⟨p, t, ⟨side p.source.a, side p.source.b⟩⟩

/-- The state in which a pass that opens in `s` enters its first segment (R25 steps 1 to 3). -/
def State.passStarted (s : State) : State :=
  { s with
    motion := { s.motion with high := some ⟨s.motion.position, s.motion.position / 32 * 32 + 32⟩ }
    capture := { s.capture with
      pass := some ⟨s.map.passCounter + 1, none, (s.motion.position / 512).toNat⟩, settings := s.link.profile.capture
      reference := Quad.fill s.link.profile.capture.initialLevel, inputTimer := true }
    timebase := some s.link.profile.timebase.atStart
    map := { s.map with passCounter := s.map.passCounter + 1 } }

/-- `u` is what stands after a pass opens in `s` with the last residue counts `c` and the strip `i` (R25): numbered, its
settings fixed from the profile, the timebase started, the high-water position and next boundary set, its first segment
entered (SegmentEntered) in an OPEN strip that its open entry names, its opening span begun, the segment entry given to the
request queue (R112), PASS_OPENED posted after any notice of the segment entry. Nothing else changes but the store, the map,
the render engine, the slots and the link, by the segment entry. -/
structure PassOpened (s u : State) (c : Quad (BitVec 16)) (i : Nat) : Prop where
  pass : u.capture.pass = some
    ⟨s.map.passCounter + 1, some ⟨(s.motion.position / 512).toNat, i⟩, (s.motion.position / 512).toNat⟩
  settings : u.capture.settings = s.link.profile.capture
  reference : u.capture.reference = Quad.fill s.link.profile.capture.initialLevel
  timer : u.capture.inputTimer = true
  strip : (u.strip i).state = .opened ∧ (u.strip i).owner = some ((s.motion.position / 512).toNat, s.map.passCounter + 1)
  entry : (u.segment (s.motion.position / 512).toNat).entries.getLast? = some ⟨s.map.passCounter + 1, i, none⟩
  frames : u.capture.frameCount = 0 ∧ u.capture.overrun = false ∧ u.capture.closing = none
  cell : u.capture.cell = some ⟨0, 0, Oct.fill 0⟩
  span : u.capture.span = some
    { segment := (s.motion.position / 512).toNat, index := (s.motion.position / 32 % 16).toNat
      whole := decide (s.motion.position % 32 = 0), first := 0, frames := 0, startResidue := c, sums := Oct.fill 0
      overload := Oct.fill 0, cells := 0, dropped := Oct.fill 0
      snapshot := Quad.fill s.link.profile.capture.initialLevel, backtrack := false, ended := none, means := Oct.fill 0 }
  kept : u.capture.lastResidue = s.capture.lastResidue ∧ u.capture.inputWait = s.capture.inputWait ∧
    u.capture.limitNoticed = s.capture.limitNoticed ∧ u.capture.tallies = s.capture.tallies
  timebase : u.timebase = some s.link.profile.timebase.atStart
  requests : u.requests = (s.requestEntered (s.motion.position / 512).toNat).requests
  notice : ∃ l : Link, s.link.notices <+: l.notices ∧
    u.link = l.posted (.passOpened (s.map.passCounter + 1) (s.motion.position / 512).toNat s.motion.position)
  wear : ∀ g, (u.segment g).wear = (s.segment g).wear
  entering : ∃ e : State,
    SegmentEntered s.passStarted e (s.motion.position / 512).toNat (s.map.passCounter + 1) i none ∧
    u = { e with
      capture := u.capture
      link := e.link.posted (.passOpened (s.map.passCounter + 1) (s.motion.position / 512).toNat s.motion.position) }
  rest : u = { s with
    motion := { s.motion with high := some ⟨s.motion.position, s.motion.position / 32 * 32 + 32⟩ }
    capture := u.capture, timebase := u.timebase, store := u.store
    map := { s.map with
      passCounter := s.map.passCounter + 1, segments := u.map.segments, counts := u.map.counts }
    requests := u.requests, render := u.render, slots := u.slots, link := u.link }

/-- The conditions of R22 but for the pass counter. -/
structure State.opens (s : State) : Prop where
  armed : s.map.session = .armed
  synced : s.motion.sync = .synced
  playing : s.motion.mode = .play
  inMap : 0 ≤ s.motion.position ∧ s.motion.position < 2097152
  belowEnd : ∀ e, s.motion.tapeEnd = some e → s.motion.position < e
  input : s.capture.inputWait = false

/-- `u` is what an opening event taken in `s`, no pass being open, leaves (R22 to R25): `s` itself where a condition of R22
but the pass counter fails; PASS_LIMIT posted once where the pass counter alone has reached its limit; else a pass opened. -/
structure OpeningEvent (s u : State) : Prop where
  none : ¬s.opens → u = s
  limit : s.opens → 65535 ≤ s.map.passCounter → u = { s with
    capture := { s.capture with limitNoticed := true }
    link := if s.capture.limitNoticed then s.link else s.link.posted .passLimit }
  pass : s.opens → s.map.passCounter < 65535 → ∀ c, s.capture.lastResidue = some c → ∃ i, PassOpened s u c i

/-- `y` is the segment record `x`, but for slot numbers gone from its rendition fields, as of a slot that a take gives away
(R101, R157). Its state is as R81 sets it. -/
def Segment.unslotted (x y : Segment) : Prop :=
  y.restated = { x with rendition := y.rendition }.restated ∧ ∀ sd : Side,
    y.rendition.get sd = x.rendition.get sd ∨ y.rendition.get sd = ⟨none, (x.rendition.get sd).unrecovered⟩

/-- The entry assembled as a segment is left, its span in progress ending by a boundary or, with `cut`, by the close of the
pass (R28 steps 1 and 2, R29, R42 steps 1 and 2). -/
def State.entryLeft (s : State) (en : Entered) (cut lost : Bool) : EntryFields :=
  assembleEntry (((s.endSpan cut).endStrip en.strip).strip en.strip).spans s.capture.overrun lost

/-- The tape map of `u` is that of `s` after a pass has left the segment it stood in: its entry takes the assembled fields and
sets the hazard where a span is VALID, and is removed where none is (R85, R86, R89); every other segment is as it was, but for
slots that a take gave away. -/
structure SegmentLeft (s u : State) (pass : Nat) (en : Entered) (cut lost : Bool) : Prop where
  finalized : Validity.valid ∈ (s.entryLeft en cut lost).validity → Segment.unslotted
    { s.segment en.segment with
      entries := (s.segment en.segment).entries.map fun (e : Entry) =>
        if e.pass = pass then { e with fields := some (s.entryLeft en cut lost) } else e
      hazard := some (s.entryLeft en cut lost).hazard, changes := (s.segment en.segment).changes + 1 }
    (u.segment en.segment)
  removed : Validity.valid ∉ (s.entryLeft en cut lost).validity → Segment.unslotted
    { s.segment en.segment with
      entries := (s.segment en.segment).entries.filter fun e => e.pass ≠ pass
      changes := (s.segment en.segment).changes + 1 }
    (u.segment en.segment)
  others : ∀ g, g ≠ en.segment → Segment.unslotted (s.segment g) (u.segment g)
  rest : u.map = { s.map with segments := u.map.segments, counts := u.map.counts }

/-- The pass `p` of `s` is closed in `u` with a cause, its high-water position at the close being `x` (R42): the span, the
cell, the strip and the timer are left, high-water position and timebase dropped, PASS_CLOSED posted. The tape map holds the
entry of the segment left (SegmentLeft), with INPUT_LOST exactly at that cause (R29, R40). The span in progress is cut, but
where `cut` is false: there a segment boundary has ended it. -/
structure PassClosed (s u : State) (p : OpenPass) (cause : CloseCause) (x : Int) (cut : Bool := true) : Prop where
  pass : u.capture.pass = none
  span : u.capture.span = none ∧ u.capture.closing = none ∧ u.capture.cell = none
  timer : u.capture.inputTimer = false
  wait : u.capture.inputWait = (s.capture.inputWait || decide (cause = .inputLost))
  timebase : u.timebase = none
  motion : u.motion = { s.motion with high := none }
  counter : u.map.passCounter = s.map.passCounter
  session : u.map.session = s.map.session
  strip : ∀ en, p.entered = some en → (u.strip en.strip).state ≠ .opened
  entry : ∀ en, p.entered = some en → ∀ e ∈ (u.segment en.segment).entries, e.pass = p.number →
    ∃ f, e.fields = some f ∧ (f.inputLost = true ↔ cause = .inputLost)
  map : ∀ en, p.entered = some en → SegmentLeft s u p.number en cut (decide (cause = .inputLost))
  notice : u.link.reported (.passClosed p.number cause p.lastSegment x)

/-- A span in progress as it begins at a boundary: span `k` of segment `g`, WHOLE, from frame `first`, residue counts `c`
and reference levels `l` (R26 step 5). -/
def SpanCount.begun (g k first : Nat) (c : Quad (BitVec 16)) (l : Quad Nat) : SpanCount :=
  { segment := g, index := k, whole := true, first := first, frames := 0, startResidue := c, sums := Oct.fill 0
    overload := Oct.fill 0, cells := 0, dropped := Oct.fill 0, snapshot := l, backtrack := false, ended := none
    means := Oct.fill 0 }

/-! ## Invariants -/

/-- The attention line is raised exactly while the FIFO holds a notice, and the FIFO holds at most 8 (R181, R183). -/
def Port.sound (p : Port) : Prop := p.fifo.length ≤ 8 ∧ (p.attention = true ↔ p.fifo ≠ [])

/-- Every list is within the capacity the reference gives it (R106, R125, R181, R187, R195). -/
structure State.withinCapacity (s : State) : Prop where
  fifo : s.port.fifo.length ≤ 8
  notices : s.link.notices.length ≤ 32
  commands : s.link.commands.length ≤ 16
  requests : s.requests.queue.length ≤ 16
  jobs : s.render.queue.length ≤ 8

/-- The request queue as R106, R107 and R115 describe it: distinct ids, each LIVE in the id table and no other id LIVE;
every range in order and in the map; at most one request TAKEN or ACTIVE, and the take timer running exactly while one is
TAKEN. -/
structure State.requestsSound (s : State) : Prop where
  distinct : (s.requests.queue.map (·.id)).Nodup
  live : ∀ id, s.idState id = .live ↔ id ∈ s.requests.queue.map (·.id)
  ids : ∀ r ∈ s.requests.queue, 1 ≤ r.id ∧ r.id ≤ 255
  issued : s.requests.lastId ≤ 255
  ranges : ∀ r ∈ s.requests.queue, r.first ≤ r.next ∧ r.next ≤ r.last ∧ r.last < 4096
  oneTaken : (s.requests.queue.filter (·.isTaken)).length ≤ 1
  timer : s.requests.takeTimer.isSome = s.requests.queue.any fun r => decide (r.state = .taken)
  room : s.requests.queue.length ≤ 16
  table : Table.wf IdState.neverIssued s.requests.ids = true

/-- The open pass and the head-engaged run. High-water position and timebase are present exactly while a pass is open (R15,
R42, R61); a pass is open only under PLAY, in ARMED and while SYNCED, with a segment entered (R22, R11, R41, R25). A run is
active exactly while the mode is PLAY or REVERSE_PLAY and the part is SYNCED (R16). Under an open pass the position lies
between 0 and the high-water position, which lies below the next boundary, a span boundary of the map, and below a confirmed
tape end (R15, R22, R41). -/
structure State.passSound (s : State) : Prop where
  high : s.motion.high.isSome = s.capture.pass.isSome
  timebase : s.timebase.isSome = s.capture.pass.isSome
  playing : s.capture.pass.isSome = true → s.motion.mode = .play
  armed : s.capture.pass.isSome = true → s.map.session = .armed
  synced : s.capture.pass.isSome = true → s.motion.sync = .synced
  entered : ∀ p, s.capture.pass = some p → p.entered.isSome = true
  run : s.motion.run.isSome = true ↔
    (s.motion.mode = .play ∨ s.motion.mode = .reversePlay) ∧ s.motion.sync = .synced
  placed : ∀ h, s.motion.high = some h → 0 ≤ s.motion.position ∧ s.motion.position ≤ h.position ∧ h.position < h.next ∧
    h.next % 32 = 0 ∧ h.next ≤ 2097152
  belowEnd : ∀ h e, s.motion.high = some h → s.motion.tapeEnd = some e → h.position < e

/-- The state of segment `g` by R81's table: OPEN when one of its entries names the OPEN strip, else HELD when its entry list
is not empty, else GONE when its hazard is present, else UNSEEN. -/
def State.stateByTable (s : State) (g : Nat) : SegState :=
  if ∃ e ∈ (s.segment g).entries, (s.strip e.strip).state = .opened then .opened
  else if (s.segment g).entries ≠ [] then .held
  else if (s.segment g).hazard ≠ none then .gone
  else .unseen

/-- The number of segments of the map in a state. -/
def State.segmentsIn (s : State) (x : SegState) : Nat :=
  ((List.range 4096).filter fun g => (s.segment g).state = x).length

/-- Every segment is in the state R81's table gives it, and the segment state counts count them. -/
structure State.segmentStatesSound (s : State) : Prop where
  state : ∀ g, (s.segment g).state = s.stateByTable g
  counts : s.map.counts =
    ⟨s.segmentsIn .unseen, s.segmentsIn .opened, s.segmentsIn .held, s.segmentsIn .gone⟩

/-- The open pass and the strip, segment and boundary it stands at (R15, R25, R28, R65, R82). -/
structure State.passPlaced (s : State) (p : OpenPass) (en : Entered) (h : HighWater) : Prop where
  entered : p.entered = some en
  high : s.motion.high = some h
  segment : en.segment = p.lastSegment
  inMap : en.segment < 4096
  number : p.number = s.map.passCounter
  owner : (s.strip en.strip).owner = some (en.segment, p.number)
  above : 512 * (en.segment : Int) < h.next
  within : h.next ≤ 512 * ((en.segment : Int) + 1)
  boundary : h.next % 32 = 0
  first : ∀ g, en.segment < g → ∀ e ∈ (s.segment g).entries, e.pass ≠ p.number

/-- The strip table and the tape map agree (R64 to R66, R82): the strip count is one of the strap's, the ring pointer and
every strip in use below it; a VACANT strip has no owner; each OPEN or HELD strip is named by an entry of its owner, each
entry names a strip of its own, OPEN exactly while the entry is open; an entry list holds at most four, in strictly ascending
pass number up to the pass counter; the OPEN strip is that of the open pass. -/
structure State.storeSound (s : State) : Prop where
  count : s.store.stripCount = 256 ∨ s.store.stripCount = 512 ∨ s.store.stripCount = 1024
  pointer : s.store.ringPointer < s.store.stripCount
  range : ∀ i, s.store.stripCount ≤ i → (s.strip i).state = .vacant
  vacant : ∀ i, (s.strip i).state = .vacant → (s.strip i).owner = none
  named : ∀ i, (s.strip i).state ≠ .vacant → ∃ g, ∃ e ∈ (s.segment g).entries,
    e.strip = i ∧ (s.strip i).owner = some (g, e.pass)
  names : ∀ g, ∀ e ∈ (s.segment g).entries, (s.strip e.strip).owner = some (g, e.pass) ∧
    (s.strip e.strip).state = if e.fields = none then .opened else .held
  four : ∀ g, (s.segment g).entries.length ≤ 4
  ascending : ∀ g, ((s.segment g).entries.map (·.pass)).Pairwise (· < ·)
  issued : ∀ g, ∀ e ∈ (s.segment g).entries, e.pass ≤ s.map.passCounter
  limit : s.map.passCounter ≤ 65535
  inMap : ∀ g, 4096 ≤ g → s.segment g = Segment.blank
  opened : ∀ i, (s.strip i).state = .opened ↔ ∃ p en, s.capture.pass = some p ∧ p.entered = some en ∧ en.strip = i
  placed : ∀ p, s.capture.pass = some p → ∃ en h, s.passPlaced p en h

/-- The keep counts as R73 defines them, and the kept charge within a quarter of the strip count. -/
structure State.keptSound (s : State) : Prop where
  segments : s.store.keptSegments = ((List.range 4096).filter fun g => (s.segment g).keep).length
  strips : s.store.keptStrips =
    ((List.range s.store.stripCount).filter fun i => (s.strip i).owner.any fun o => (s.segment o.1).keep).length
  charge : 4 * s.store.keptSegments ≤ s.store.stripCount / 4

/-- The record a slot took at the take of a job (R128 step 3). -/
def Job.head (j : Job) : SlotHead := ⟨j.segment, j.side, j.changes, (j.spans.map (·.count)).sum⟩

/-- What a slot's record took at its take, absent for a FREE slot. -/
def Slot.head : Slot → Option SlotHead
  | .free => none
  | .filling h _ => some h
  | .ready h _ _ => some h

/-- No slot can be given to a queued job: every one is READY and not fetched, and none holds the job's segment and side
(R156). -/
def State.noSlotFor (s : State) (j : QueuedJob) : Prop :=
  ∀ k < 32, ∃ h r d, s.slot k = .ready h r d ∧ r.fetched = false ∧ ¬(h.segment = j.segment ∧ h.side = j.side)

/-- The slots, the completion list and the rendition fields agree (R101, R151 to R153): the completion list holds exactly the
READY slots, each once; one READY slot at most holds a segment and side, and the segment's field names exactly it. -/
structure State.slotsAgree (s : State) : Prop where
  range : ∀ k, 32 ≤ k → s.slot k = .free
  distinct : s.slots.completion.Nodup
  completion : ∀ k, k ∈ s.slots.completion ↔ ∃ h r d, s.slot k = .ready h r d
  single : ∀ k l h h' r r' d d', s.slot k = .ready h r d → s.slot l = .ready h' r' d' → h.segment = h'.segment →
    h.side = h'.side → k = l
  fields : ∀ g sd k, ((s.segment g).rendition.get sd).slot = some k ↔
    ∃ h r d, s.slot k = .ready h r d ∧ h.segment = g ∧ h.side = sd

/-- The rendition slots, the render engine and the map agree (R101, R128, R151 to R156): the slots agree among themselves;
the FILLING slot is that of the job in flight; the head waits exactly while a queue with no job in flight finds no slot; a
version at take is never ahead of its segment's. -/
structure State.slotsSound (s : State) : Prop extends State.slotsAgree s where
  filling : ∀ k h d, s.slot k = .filling h d → ∃ j, s.render.job = some j ∧ j.slot = k ∧ h = j.head
  job : ∀ j, s.render.job = some j → ∃ h d, s.slot j.slot = .filling h d
  waiting : s.render.headWaiting = true → s.render.job = none ∧ ∃ j rest, s.render.queue = j :: rest ∧ s.noSlotFor j
  idle : s.render.job = none → s.render.queue ≠ [] → s.render.headWaiting = true
  behind : ∀ k h, (s.slot k).head = some h → h.changes ≤ (s.segment h.segment).changes
  inMap : ∀ k h, (s.slot k).head = some h → h.segment < 4096
  queued : ∀ j ∈ s.render.queue, j.segment < 4096

/-- Every table is in its canonical form, so that equal contents are equal data. -/
structure State.canonical (s : State) : Prop where
  segments : Table.wf Segment.blank s.map.segments = true
  strips : Table.wf Strip.blank s.store.strips = true
  slots : Table.wf Slot.free s.slots.slots = true
  ids : Table.wf IdState.neverIssued s.requests.ids = true

/-- The invariants of the blocks together, each of which a step keeps (the statements StepKeeps…). -/
structure State.sound (s : State) : Prop where
  tables : s.canonical
  requests : s.requestsSound
  pass : s.passSound
  segments : s.segmentStatesSound
  store : s.storeSound
  kept : s.keptSound
  slots : s.slotsSound

/-- The link tallies, the dropout tallies and the lost-notice count are within 65,535 (R43, R195, R196). -/
structure State.talliesBounded (s : State) : Prop where
  link : ∀ n ∈ s.link.tallies.toList, n ≤ 65535
  dropouts : ∀ e, s.capture.tallies.get e ≤ 65535
  lost : s.link.lostNotices ≤ 65535

/-- A run is safe when no step of it stops. No command of the TD-4 has a fault or a refusal. -/
def State.stepsOn (s : State) : Prop := ∃ t, step s = .next t

end Sys2Proof.Machine
end

