-- ==== Sys2Proof/WellFormed.lean ====
section
/-! DEFINITION. Which commands a wire can carry: every argument fits the field the wire format gives it (R199 to R207). -/

namespace Sys2Proof

/-- A number that fits a field of `w` bytes. -/
def fits (w n : Nat) : Bool := n < 256 ^ w

/-- Whether the command can arrive: its numbers fit their fields, and its byte strings have a length the event has.
`exec` gives every term a meaning, well-formed or not. -/
def Instr.wellFormed : Instr → Bool
  | .powerOnReset _ _ => true
  | .tachometerPulse _ _ => true
  | .elementFrame _ => true
  | .inputTimerExpiry => true
  | .takeTimerExpiry => true
  | .status => true
  | .motion mode _ => fits 1 mode
  | .take => true
  | .abandon id => fits 1 id
  | .notice => true
  | .ahead => true
  | .transportRestart => true
  | .unknownCommand c => fits 1 c && !(1 ≤ c && c ≤ 7)
  | .transactionDiscarded r => r == [] || r == [2#8] || r == [4#8]
  | .linkHeader bs => 1 ≤ bs.length && bs.length ≤ 4
  | .gapTimeout => true
  | .linkFrame bs => bs.length ≤ 65537
  | .profileLoad img => img.length == 52
  | .profileRead => true
  | .mapRead f c => fits 2 f && fits 1 c
  | .mapSummary => true
  | .excludePass g p => fits 2 g && fits 2 p
  | .includePass g p => fits 2 g && fits 2 p
  | .setHazard f l v => fits 2 f && fits 2 l && fits 2 v
  | .clearHazard f l => fits 2 f && fits 2 l
  | .setSplice g o => fits 2 g && fits 2 o
  | .clearSplice g => fits 2 g
  | .keep f l => fits 2 f && fits 2 l
  | .unkeep f l => fits 2 f && fits 2 l
  | .requestAppend f l => fits 2 f && fits 2 l
  | .requestCancel id => fits 1 id
  | .queueRead => true
  | .render g sd => fits 2 g && fits 1 sd
  | .slotRead f c => fits 1 f && fits 1 c
  | .fetchRendition k f c => fits 1 k && fits 3 f && fits 2 c
  | .slotRelease k => fits 2 k
  | .stripRead i => fits 2 i
  | .fetchRaw i e f c => fits 2 i && fits 1 e && fits 3 f && fits 2 c
  | .tallyRead => true
  | .newTape => true
  | .resumeTape => true
  | .workstationRestart => true
  | .linkFrameSent => true
  | .writeBurstComplete => true
  | .linkReadBurstComplete => true
  | .renderBurstComplete => true

end Sys2Proof
end

