-- ==== Sys2Proof/Certificates/Slice0/Obligations.lean ====
section
/-! DEFINITION. The statements for the provers, chapter by chapter of the reference. -/

open Sys2Proof Sys2Proof.Machine

/-! ## The machine as a whole -/

/-- A step takes the command at the front of the queue; with none waiting a millisecond of the take timer passes and a
transaction whose reply stood is over (the model's choice, logs 3 and 28). -/
def Obligations.StepTakesFrontCommand : Prop :=
  (∀ (c : Instr) (rest : List Instr) (s : State),
    step { s with pending := c :: rest } = exec c { s with pending := rest }) ∧
  ∀ s : State, s.pending = [] →
    step s = .next { s with
      requests := { s.requests with takeTimer := s.requests.takeTimer.map fun ms => ms - 1 }
      port := { s.port with transaction := none, reply := none } }

/-- Every command and event has a next state from every state. It leaves the commands waiting alone: their queue is the
model's own (DESIGN CHOICE, log 4), and power-on keeps it too. -/
def Obligations.EveryCommandCompletes : Prop :=
  ∀ (c : Instr) (s : State), ∃ t, exec c s = .next t ∧ t.pending = s.pending

/-- Power-on, or the reset pin, from any state: every item of every block at the value the reset tables give. The last line,
the queue of commands and the count of free choices kept, is the model's own (DESIGN CHOICE, log 4). -/
def Obligations.PowerOnSetsEveryBlock : Prop :=
  ∀ (strap : Strap) (sensor : Level) (s : State), ∃ t, exec (.powerOnReset strap sensor) s = .next t ∧
    t.motion = { position := 0, sync := .unsynced, mode := .unloaded, lastDir := none, high := none, sensorLevel := sensor
                 edgeTravel := 16, clearInterval := none, largestSlip := 0, slipCount := 0, syncFaults := 0
                 tapeEnd := none, run := none } ∧
    t.capture = { pass := none
                  settings := ⟨⟨true, true, true, true, true, true, true, true⟩, 64, 524288, 4096⟩
                  frameCount := 0, overrun := false, span := none, closing := none, cell := none
                  reference := ⟨524288, 524288, 524288, 524288⟩, lastResidue := none, inputTimer := false
                  inputWait := true, limitNoticed := false, tallies := ⟨0, 0, 0, 0, 0, 0, 0, 0⟩ } ∧
    t.timebase = none ∧
    t.store.stripCount = (match strap with | .tiedLow => 256 | .openPin => 512 | .tiedHigh => 1024) ∧
    (∀ i, (t.strip i).state = .vacant ∧ (t.strip i).owner = none) ∧ t.store.ringPointer = 0 ∧
    t.store.keptSegments = 0 ∧ t.store.keptStrips = 0 ∧ t.store.writeBuffer = [] ∧ t.store.recordWrites = [] ∧
    t.store.writeBurst = none ∧ t.store.burst = none ∧ t.store.lastReader = .render ∧
    t.map.session = .vacant ∧ t.map.passCounter = 0 ∧ t.map.tapeEndSegment = none ∧ t.map.counts = ⟨4096, 0, 0, 0⟩ ∧
    (∀ g, t.segment g = { state := .unseen, entries := [], wear := 0, hazard := none, operatorHazard := none
                          splice := none, keep := false, changes := 0, rendition := ⟨⟨none, none⟩, ⟨none, none⟩⟩ }) ∧
    t.requests.queue = [] ∧ t.requests.takeTimer = none ∧ t.requests.lastOutcome = none ∧
    (∀ id, t.idState id = .neverIssued) ∧ t.requests.lastId = 0 ∧
    t.render = ⟨[], false, none⟩ ∧ (∀ k, t.slot k = .free) ∧ t.slots.completion = [] ∧
    t.advisory = ⟨128, none, 750, false⟩ ∧
    t.port = ⟨none, none, [], false, false⟩ ∧
    t.link.rx = ⟨.hunt, [], none⟩ ∧ t.link.tx = none ∧ t.link.commands = [] ∧ t.link.notices = [] ∧
    t.link.lostNotices = 0 ∧
    t.link.profile = { timebase := ⟨47625, 105000, 61, 1310720, 1310720, true, ⟨.resLeft, .resLeft⟩⟩
                       capture := ⟨⟨true, true, true, true, true, true, true, true⟩, 64, 524288, 4096⟩
                       concealment := .holdBest, autoRender := true, wearLimit := 6, takeTimeout := 120
                       advisory := ⟨true, 3, [(0, 1000), (64, 1000), (128, 750), (192, 550), (255, 400)], true, 16, 20, 100,
                         true, 160, 128, 224⟩ } ∧
    t.link.tallies = ⟨0, 0, 0, 0, 0, 0, 0, 0⟩ ∧
    t.free = s.free ∧ t.pending = s.pending

/-- The state after reset meets every invariant stated below. -/
def Obligations.ResetStateIsSound : Prop :=
  State.reset.port.sound ∧ State.reset.withinCapacity ∧ State.reset.talliesBounded ∧ State.reset.sound ∧
    State.reset.storeServed ∧ State.reset.lineServed

/-- Every step keeps the attention line raised exactly while the FIFO holds a notice, every list within its capacity and
every tally within 65,535. Every step keeps the store and the line served: nobody waits for an idle store, and nothing waits
for an idle transmitter; that this holds of a requester with more to do at its own burst's completion too is the model's
reading (DEDUCED, log 23). -/
def Obligations.StepKeepsLineAndCapacities : Prop :=
  (∀ s t : State, s.port.sound → s.withinCapacity → s.talliesBounded → step s = .next t →
    t.port.sound ∧ t.withinCapacity ∧ t.talliesBounded) ∧
  ∀ s t : State, s.storeServed → s.lineServed → step s = .next t → t.storeServed ∧ t.lineServed

/-- Every step keeps the tape map, the strip table, the slots and the id table in their canonical forms. The canonical form
is the model's own representation of a table (DESIGN CHOICE, log 14), no rule of the reference. -/
def Obligations.StepKeepsTablesCanonical : Prop :=
  ∀ s t : State, s.canonical → step s = .next t → t.canonical

/-- Every step keeps the request queue, the id table and the take timer in agreement. -/
def Obligations.StepKeepsRequestQueueSound : Prop :=
  ∀ s t : State, s.requestsSound → step s = .next t → t.requestsSound

/-- Every step keeps what an open pass and a head-engaged run require: the high-water position and the timebase present
exactly while a pass is open; a pass open only under PLAY, in an ARMED session and SYNCED, at a position between 0 and its
high-water position, which stays below the next boundary and the tape end; a run active exactly while the mode is PLAY or
REVERSE_PLAY and the part is SYNCED. -/
def Obligations.StepKeepsPassState : Prop :=
  ∀ s t : State, s.passSound → step s = .next t → t.passSound

/-- Every step keeps every segment in the state R81's table gives it, by the strips its entries name, its entry list and its
hazard, and keeps the segment state counts at the number of segments in each state. The model sets a state from the open
entries of a list (DEDUCED, log 27); the statement is made with the OPEN strip. -/
def Obligations.StepKeepsSegmentStates : Prop :=
  ∀ s t : State, s.sound → step s = .next t → t.segmentStatesSound

/-- Every step keeps the strip table and the tape map in agreement, and the open pass at its strip, segment and boundary. -/
def Obligations.StepKeepsStripsAndMapAgreed : Prop :=
  ∀ s t : State, s.sound → step s = .next t → t.storeSound

/-- Every step keeps the kept segment count at the number of segments kept, the kept-strip count at the number of OPEN or
HELD strips whose owning segment is kept, and the kept charge within a quarter of the strip count. -/
def Obligations.StepKeepsKeptCounts : Prop :=
  ∀ s t : State, s.sound → step s = .next t → t.keptSound

/-- Every step keeps the slots, the completion list, the render queue and the rendition fields in agreement, and a READY slot
that is stale does not become current again, even when the version wraps round (log 36). -/
def Obligations.StepKeepsSlotsSound : Prop :=
  ∀ s t : State, s.sound → step s = .next t →
    t.slotsSound ∧
    ∀ k h r r' d d', s.slot k = .ready h r d → h.changes ≠ (s.segment h.segment).changes → t.slot k = .ready h r' d' →
      h.changes ≠ (t.segment h.segment).changes ∧ t.currentSlot h.segment h.side ≠ some k

/-! ## Wire formats (12) -/

/-- The profile image is laid out as R203 gives it. A valid profile is read back whole from its image of 52 bytes, and a
profile is read from no bytes but its own image, and only if it is valid (ProfileLoadTestedThenHeld says what valid is). -/
def Obligations.ProfileImageReadsBack : Prop :=
  let bytes : Nat → Nat → List Byte := fun w n => (List.range w).map fun k => BitVec.ofNat 8 (n / 256 ^ k)
  let source : Source → Nat
    | .tach => 0 | .resLeft => 1 | .resRight => 2
  (∀ p : Profile,
    let t := p.timebase
    let c := p.capture
    let a := p.advisory
    let enables := (List.finRange 8).map fun e => if c.enables.get e then 2 ^ e.val else 0
    p.image = bytes 4 t.speed ++ bytes 4 t.bias ++ bytes 1 (source t.source.a + 4 * source t.source.b) ++
      bytes 1 t.window ++ bytes 3 t.slewUp ++ bytes 3 t.slewDown ++
      bytes 1 (t.jump.toNat + (if p.concealment = .mute then 2 else 0) + 4 * p.autoRender.toNat + 8 * a.interpolate.toNat +
        16 * a.jump.toNat + 32 * a.ahead.toNat) ++ bytes 1 enables.sum ++ bytes 1 c.dropThreshold ++
      bytes 3 c.levelFloor ++ bytes 3 c.initialLevel ++ bytes 1 p.wearLimit ++ bytes 2 p.takeTimeout ++
      bytes 1 a.lookAhead ++ a.points.flatMap (fun q => bytes 1 q.1 ++ bytes 2 q.2) ++ bytes 1 a.hysteresis ++
      bytes 2 a.rise ++ bytes 2 a.fall ++ bytes 1 a.zone ++ bytes 1 a.unseen ++ bytes 1 a.spliceHazard) ∧
  (∀ p : Profile, p.valid = true → p.image.length = 52 ∧ readProfile p.image = some p) ∧
  ∀ (b : List Byte) (p : Profile), readProfile b = some p → p.valid = true ∧ p.image = b

/-- The frame of a well-formed link command, received byte by byte with nothing held between frames, in FRAMED or in HUNT,
does exactly what the command does, and leaves the receiver FRAMED. The two rows that bring it are the model's division
(log 5). The kinds, fields and payloads are those of R203's table: a header of tag, field and check byte on channel 0, and
for a long kind the payload and its CRC after it. -/
def Obligations.LinkFramesCarryCommands : Prop :=
  let bytes : Nat → Nat → List Byte := fun w n => (List.range w).map fun k => BitVec.ofNat 8 (n / 256 ^ k)
  (∀ (g h p n : Nat) (image : List Byte),
    let short : List (Instr × Nat × Nat) :=
      [(.profileRead, 1, 0), (.mapSummary, 2, 0), (.queueRead, 3, 0), (.stripRead n, 4, n), (.slotRelease n, 5, n),
        (.tallyRead, 6, 0), (.newTape, 7, 0), (.resumeTape, 8, 0), (.workstationRestart, 9, 0)]
    let annotations : List (Instr × Nat × Nat × Nat × Nat) :=
      [(.excludePass g p, 0, g, p, 0), (.includePass g p, 1, g, p, 0), (.setHazard g h n, 2, g, h, n),
        (.clearHazard g h, 3, g, h, 0), (.setSplice g n, 4, g, n, 0), (.clearSplice g, 5, g, 0, 0)]
    let long : List (Instr × Nat × List Byte) :=
      [(.profileLoad image, 32, image), (.mapRead g n, 33, bytes 2 g ++ bytes 1 n), (.keep g h, 35, bytes 2 g ++ bytes 2 h),
        (.unkeep g h, 36, bytes 2 g ++ bytes 2 h), (.requestAppend g h, 37, bytes 2 g ++ bytes 2 h),
        (.requestCancel n, 38, bytes 1 n), (.render g n, 39, bytes 2 g ++ bytes 1 n), (.slotRead g n, 40, bytes 1 g ++ bytes 1 n),
        (.fetchRendition g h n, 41, bytes 1 g ++ bytes 3 h ++ bytes 2 n),
        (.fetchRaw g p h n, 42, bytes 2 g ++ bytes 1 p ++ bytes 3 h ++ bytes 2 n)]
    (∀ x ∈ short, commandFrame x.1 = some ⟨x.2.1, x.2.2, []⟩) ∧
    (∀ x ∈ annotations, commandFrame x.1 =
      some ⟨34, 7, bytes 1 x.2.1 ++ bytes 2 x.2.2.1 ++ bytes 2 x.2.2.2.1 ++ bytes 2 x.2.2.2.2⟩) ∧
    ∀ x ∈ long, commandFrame x.1 = some ⟨x.2.1, x.2.2.length, x.2.2⟩) ∧
  (∀ f : CommandFrame, f.kind < 64 →
    f.header = bytes 1 f.kind ++ bytes 2 f.field ++ bytes 1 (checkByte (f.kind + 256 * f.field)) ∧
      f.rest = if f.kind < 32 then [] else f.payload ++ bytes 2 (crc f.payload).toNat) ∧
  ∀ (c : Instr) (f : CommandFrame) (x : RxState) (s : State), commandFrame c = some f → c.wellFormed = true →
    s.link.rx = ⟨x, [], none⟩ →
    ∃ s1, exec (.linkHeader f.header) s = .next s1 ∧
      exec (.linkFrame f.rest) s1 = exec c { s with link := { s.link with rx := ⟨.framed, [], none⟩ } }

/-- The check byte is that of R202: check bits 0 to 4 make the position codes of all set bits cancel, bit 5 makes the number
of ones even. It corrects any single wrong bit among the 24 data bits and check bits 0 to 5, detects any two, and refuses
check bits 6 and 7. -/
def Obligations.HeaderCheckCorrectsOneDetectsTwo : Prop :=
  ∀ d : Nat, d < 2 ^ 24 →
    let codes : List Nat := [3, 5, 6, 7, 9, 10, 11, 12, 13, 14, 15, 17, 18, 19, 20, 21, 22, 23, 24, 25, 26, 27, 28, 29]
    let set := (List.range 24).filter fun i => d.testBit i
    (∀ j < 5, (checkByte d).testBit j = decide ((set.filter fun i => (codes.getD i 0).testBit j).length % 2 = 1)) ∧
    (set.length + ((List.range 6).filter fun j => (checkByte d).testBit j).length) % 2 = 0 ∧
    checkByte d < 64 ∧ classifyHeader d (checkByte d) = .noError ∧
    (∀ i < 24, classifyHeader (d ^^^ 2 ^ i) (checkByte d) = .corrected d) ∧
    (∀ i < 6, classifyHeader d (checkByte d ^^^ 2 ^ i) = .corrected d) ∧
    (∀ i < 24, ∀ j < 24, i ≠ j → classifyHeader (d ^^^ 2 ^ i ^^^ 2 ^ j) (checkByte d) = .uncorrectable) ∧
    (∀ i < 24, ∀ j < 6, classifyHeader (d ^^^ 2 ^ i) (checkByte d ^^^ 2 ^ j) = .uncorrectable) ∧
    (∀ i < 6, ∀ j < 6, i ≠ j → classifyHeader d (checkByte d ^^^ 2 ^ i ^^^ 2 ^ j) = .uncorrectable) ∧
    ∀ c, 64 ≤ c → classifyHeader d c = .uncorrectable

/-- The bytes of a transport transaction name its command once its last byte is received, whatever follows, and none before;
the command's reply stands in the port with those bytes. An unknown command byte is answered UNKNOWN and a transaction
released early is discarded, and neither changes anything else. That the port then holds no transaction and no reply is the
model's choice (log 28). A byte goes most significant bit first on this port and least significant bit first on the link.
The command bytes and the replies are those of R206 and R207: 00h goes out while a command is clocked in, then the status
byte and the body its table gives, a refusal's filled with 0, then 00h. That a slip takes 3 bytes is the model's reading
(log 12). -/
def Obligations.TransactionsNameCommands : Prop :=
  let bytes : Nat → Nat → List Byte := fun w n => (List.range w).map fun k => BitVec.ofNat 8 (n / 256 ^ k)
  let signed : Nat → Int → List Byte := fun w x => bytes w (x % 256 ^ w).toNat
  let absent : Nat → Option Nat → List Byte := fun w o => bytes w (o.getD (256 ^ w - 1))
  let zeros : Nat → List Byte := fun n => List.replicate n 0#8
  let facts : RequestFacts → List Byte := fun f => bytes 1 f.id ++ bytes 2 f.first ++ bytes 2 f.last ++ bytes 2 f.next
  let mode : Mode → Nat
    | .unloaded => 0 | .stop => 1 | .play => 2 | .reversePlay => 3 | .windForward => 4 | .windReverse => 5
  let session : Session → Nat
    | .vacant => 0 | .armed => 1 | .detached => 2 | .stale => 3
  let request : Option Request → List Byte
    | none => zeros 8
    | some r => facts ⟨r.id, r.first, r.last, r.next⟩ ++
        bytes 1 (match r.state with | .queued => 0 | .taken => 1 | .active => 2)
  let outcome : Option LastOutcome → List Byte
    | none => zeros 8
    | some o => bytes 1 o.facts.id ++
        bytes 1 (match o.outcome with | .done => 0 | .cancelled => 1 | .expired => 2 | .abandoned => 3) ++
        bytes 2 o.facts.first ++ bytes 2 o.facts.last ++ bytes 2 o.facts.next
  let notice : TransportNotice → Nat × List Byte
    | .syncFault x => (1, signed 3 x)
    | .endMark e => (2, signed 3 e)
    | .mapStale => (3, [])
    | .requestQueued id => (4, bytes 1 id)
    | .requestDone f => (5, facts f)
    | .requestCancelled f => (6, facts f)
    | .requestExpired f => (7, facts f)
    | .zoneEnter g x => (8, absent 2 g ++ bytes 1 x)
    | .zoneExit g x => (9, absent 2 g ++ bytes 1 x)
  (∀ (m id : Nat) (x : Level), transactionBytes .status = some [1] ∧ transactionBytes (.motion m x) = some [2, m] ∧
    transactionBytes .take = some [3] ∧ transactionBytes (.abandon id) = some [4, id] ∧
    transactionBytes .notice = some [5] ∧ transactionBytes .ahead = some [6] ∧
    transactionBytes .transportRestart = some [7] ∧ transactionBytes (.unknownCommand id) = some [id]) ∧
  [Status.ok, .busy, .range, .full, .worn, .duplicate, .none, .notHeld, .evicted, .keepLimit, .badProfile, .state, .tooLate,
    .unknown, .crcError].map Status.code = List.range 15 ∧
  (∀ r : Reply, r.bytes = bytes 1 r.status.code ++ match r.body with
    | .empty => []
    | .snapshot x =>
      signed 3 x.position ++ absent 2 x.segment ++ absent 1 x.span ++
        bytes 1 ((if x.sync = .synced then 1 else 0) + 2 * x.zone.toNat + 4 * x.lost.toNat + 8 * x.queued.toNat) ++
        bytes 1 (session x.session) ++ bytes 1 (mode x.mode) ++ bytes 2 x.speed ++ bytes 1 x.effective ++
        bytes 1 x.noticeCount ++ request x.taken ++ outcome x.lastOutcome
    | .mode none => zeros 1
    | .mode (some m) => bytes 1 (mode m)
    | .request r => request r
    | .range none => zeros 6
    | .range (some f) => bytes 2 f.first ++ bytes 2 f.last ++ bytes 2 f.next
    | .notice none _ => zeros 9
    | .notice (some n) left =>
      bytes 1 (notice n).1 ++ bytes 1 left ++ (notice n).2 ++ zeros (7 - (notice n).2.length)
    | .places l => l.flatMap fun x => match x with
      | some (g, y) => bytes 2 g ++ bytes 1 y
      | none => List.replicate 3 255#8) ∧
  (∀ (p : Port) (l : List Byte) (r : Reply) (k : Nat), p.transaction = some l → p.reply = some r →
    p.shiftOut k = if k < l.length then 0#8 else r.bytes.getD (k - l.length) 0#8) ∧
  (∀ (c : Instr) (sensor : Level) (l : List Nat) (more : List Byte), transactionBytes c = some l → c.wellFormed = true →
    (∀ mode x, c = .motion mode x → x = sensor) →
    transactionCommand sensor (l.map (BitVec.ofNat 8) ++ more) = some c) ∧
  (∀ sensor : Level, transactionCommand sensor [] = none ∧ transactionCommand sensor [2#8] = none ∧
    transactionCommand sensor [4#8] = none) ∧
  (∀ (c : Instr) (l : List Nat) (s : State), transactionBytes c = some l → ∃ t r, exec c s = .next t ∧
    t.port.transaction = some (l.map (BitVec.ofNat 8)) ∧ t.port.reply = some r) ∧
  (∀ (b : Nat) (s : State),
    exec (.unknownCommand b) s = .next { s with port := s.port.replying [b] .unknown .empty }) ∧
  (∀ (bs : List Byte) (s : State),
    exec (.transactionDiscarded bs) s = .next { s with port := { s.port with transaction := none, reply := none } }) ∧
  ∀ bs : List Byte,
    (bs.flatMap fun b => [7, 6, 5, 4, 3, 2, 1, 0].map b.getLsbD) = bs.flatMap msbFirst ∧
    serialBytes (bs.flatMap msbFirst) = bs ∧
    (bs.flatMap fun b => [0, 1, 2, 3, 4, 5, 6, 7].map b.getLsbD) = bs.flatMap lsbFirst ∧
    linkBytes (bs.flatMap lsbFirst) = bs

/-! ## The transport port (10) -/

/-- STATUS returns the snapshot of R177 and clears the lost flag; nothing else changes. NOTICE removes and returns the oldest
notice with the number left; the line falls with the last one, and the lost flag stays. On an empty FIFO it answers NONE with
a count of 0. -/
def Obligations.StatusAndNoticeAnswered : Prop :=
  (∀ s : State, exec .status s = .next
    { s with port := { s.port.replying [1] .ok (.snapshot
        { position := s.motion.position
          segment := if 0 ≤ s.motion.position ∧ s.motion.position < 2097152 then some (s.motion.position / 512).toNat else none
          span := if 0 ≤ s.motion.position ∧ s.motion.position < 2097152 then some (s.motion.position / 32 % 16).toNat
                  else none
          sync := s.motion.sync, session := s.map.session, mode := s.motion.mode, speed := s.advisory.speed
          effective := s.advisory.effective, zone := s.advisory.zone, noticeCount := s.port.fifo.length
          lost := s.port.lost, queued := s.requests.queue.any fun r => decide (r.state = .queued)
          taken := s.requests.queue.find? fun r => decide (r.state ≠ .queued)
          lastOutcome := s.requests.lastOutcome }) with lost := false } }) ∧
  (∀ (s : State) (n : TransportNotice) (rest : List TransportNotice), s.port.fifo = n :: rest →
    exec .notice s = .next
      { s with port := { s.port.replying [5] .ok (.notice (some n) rest.length) with
          fifo := rest, attention := decide (rest ≠ []) } }) ∧
  ∀ s : State, s.port.fifo = [] →
    exec .notice s = .next { s with port := s.port.replying [5] .none (.notice none 0) }

/-- MOTION with no pass open. One outside the six modes is answered RANGE, and one of the mode held is answered OK: neither
changes anything but the reply. One between loaded modes, to another than PLAY, sets the mode; a head-engaged run ends where
the new mode is not PLAY or REVERSE_PLAY, and begins where it is and the part is SYNCED with no run active. A load sets the
Tracker as R3 gives, and the session to ARMED from VACANT, and to STALE with MAP_STALE to the transport from DETACHED. That a
MAP_STALE discarded at a full FIFO sets the lost flag is the model's choice (log 39). An eject leaves the part UNSYNCED with
no run and no clear interval, and an ARMED or STALE session DETACHED. -/
def Obligations.MotionWithNoPassOpen : Prop :=
  (∀ (mode : Nat) (level : Level) (s : State), 5 < mode →
    exec (.motion mode level) s = .next { s with port := s.port.replying [2, mode] .range (.mode none) }) ∧
  (∀ (level : Level) (s : State), Completes (.motion s.motion.mode.code level) s
    { s with port := s.port.replying [2, s.motion.mode.code] .ok (.mode (some s.motion.mode)) }) ∧
  (∀ (m : Mode) (level : Level) (s : State), s.motion.mode ≠ .unloaded → m ≠ .unloaded → m ≠ .play → m ≠ s.motion.mode →
    s.capture.pass = none →
    let declared : Option Run → State := fun run =>
      { s with
        motion := { s.motion with mode := m, run := run }
        capture := { s.capture with
          limitNoticed := if s.motion.mode = .play then false else s.capture.limitNoticed }
        port := s.port.replying [2, m.code] .ok (.mode (some m)) }
    Completes (.motion m.code level) s
      (if m ≠ .reversePlay then declared none
       else if s.motion.sync = .synced ∧ s.motion.run = none then (declared (some ⟨none⟩)).attributeWear
       else declared s.motion.run)) ∧
  (∀ (m : Mode) (level : Level) (s : State), s.motion.mode = .unloaded → m ≠ .unloaded → s.capture.pass = none →
    let motion : Motion := { s.motion with
      mode := m, position := 0, sync := .unsynced, lastDir := none, sensorLevel := level, edgeTravel := 16
      clearInterval := if level = .clearTape then some ⟨.load, true⟩ else none, run := none }
    (s.map.session = .vacant → Completes (.motion m.code level) s
      { s with
        pins := { s.pins with sensor := level }, motion := motion, map := { s.map with session := .armed }
        link := s.link.posted (.sessionChanged .armed false)
        port := s.port.replying [2, m.code] .ok (.mode (some m)) }) ∧
    (s.map.session = .detached → Completes (.motion m.code level) s
      { s with
        pins := { s.pins with sensor := level }, motion := motion, map := { s.map with session := .stale }
        link := s.link.posted (.sessionChanged .stale false)
        port := (s.port.posted .mapStale).replying [2, m.code] .ok (.mode (some m)) })) ∧
  ∀ (level : Level) (s : State), s.motion.mode ≠ .unloaded → s.capture.pass = none →
    s.map.session = .armed ∨ s.map.session = .stale →
    Completes (.motion 0 level) s
      { s with
        motion := { s.motion with mode := .unloaded, sync := .unsynced, run := none, clearInterval := none }
        capture := { s.capture with
          limitNoticed := if s.motion.mode = .play then false else s.capture.limitNoticed }
        map := { s.map with session := .detached }, link := s.link.posted (.sessionChanged .detached false)
        port := s.port.replying [2, 0] .ok (.mode (some .unloaded)) }

/-- A declaration that takes the mode out of PLAY closes the open pass with cause MOTION, clears limit noticed and keeps the
run only under REVERSE_PLAY; an eject also leaves the part UNSYNCED and the session DETACHED. The input timer's expiry closes
the pass with cause INPUT_LOST, posts INPUT_LOST and sets the input wait; with no pass open it changes nothing. The closed
pass's last entry is never COMPLETE, its span in progress being CUT, so the request queue takes the close alone: an ACTIVE
request is TAKEN again and the take timer starts (R114). The store is left as the end of the span in progress as CUT, or
OVERRUN, and of the strip leave it (R42 steps 1 and 2; FullCellIsJudged has the strip's end), and the tape map holds the
assembled entry, INPUT_LOST exactly at that cause, or is without it, every other segment as before but for slots that an AUTO
take gives away (PassClosed, SegmentLeft). That an eject posts PASS_CLOSED before SESSION_CHANGED is the model's order (log
25), as are the means of a span cut (log 21), the first frames of spans never in progress (log 22), the record writes that
these ends ask for (log 18) and the moment at which the records show (log 31). -/
def Obligations.MotionAndInputLossClosePass : Prop :=
  (∀ s : State, s.capture.pass = none → Completes .inputTimerExpiry s s) ∧
  ∀ (s : State) (p : OpenPass) (h : HighWater), s.canonical → s.capture.pass = some p → s.motion.high = some h →
    let requests : State → Prop := fun u => ∀ en x, p.entered = some en → s.capture.span = some x →
      (s.strip en.strip).state ≠ .vacant → x.index < (s.strip en.strip).spans.length →
      u.requests = s.requestPassClosed.requests
    let ended : Bool → State → State → Prop := fun lost b u => ∀ en, p.entered = some en →
      u.store = ((b.endSpan true).leaveSegment p.number en lost).store
    (∀ (en : Entered) (x : SpanCount), p.entered = some en → s.capture.span = some x → (s.strip en.strip).state ≠ .vacant →
      x.index < (s.strip en.strip).spans.length →
      let v : Validity := if s.capture.overrun then .overrun else .cut
      let means : Oct Nat := Oct.ofFn fun e => x.sums.get e / x.frames
      let waits := s.capture.closing = none ∧ ∃ c, s.capture.cell = some c ∧ 0 < c.taken
      let record : SpanRecord :=
        { validity := v, backtrack := x.backtrack, first := x.first, frames := x.frames, residue := none, means := means
          overload := x.overload, dropped := x.dropped, cells := x.cells, quality := Oct.fill 0, timebase := none }
      let u := s.endSpan true
      u.capture = { s.capture with
        span := none, closing := if waits then some { x with ended := some v, means := means } else s.capture.closing } ∧
      u.strip en.strip = { s.strip en.strip with spans := (s.strip en.strip).spans.set x.index record } ∧
      (∀ k, k ≠ en.strip → u.strip k = s.strip k) ∧
      u = { s with
        capture := u.capture
        store := { s.store with strips := u.store.strips, recordWrites := u.store.recordWrites } }) ∧
    (∀ (m : Mode) (level : Level), s.motion.mode = .play → m ≠ .play → s.motion.run ≠ none →
      let declared : State := { s with motion := { s.motion with mode := m } }
      ∃ v, PassClosed declared v p .motion h.position ∧ requests v ∧ ended false declared v ∧
        let quiet : Capture := { v.capture with limitNoticed := false }
        let port := v.port.replying [2, m.code] .ok (.mode (some m))
        (m ≠ .unloaded → Completes (.motion m.code level) s
          { v with
            motion := { v.motion with run := if m = .reversePlay then s.motion.run else none }
            capture := quiet, port := port }) ∧
        (m = .unloaded → s.map.session = .armed → Completes (.motion m.code level) s
          { v with
            motion := { v.motion with sync := .unsynced, run := none, clearInterval := none }
            capture := quiet, port := port, map := { v.map with session := .detached }
            link := v.link.posted (.sessionChanged .detached false) })) ∧
    ∃ u, Completes .inputTimerExpiry s u ∧ PassClosed s u p .inputLost h.position ∧ requests u ∧ ended true s u ∧
      u.link.reported (.inputLost p.number h.position)

/-- A declaration of PLAY from another loaded mode with no pass open: a head-engaged run begins where the part is SYNCED and
none is active, and the declaration is an opening event (R22): with every condition of R22 a pass opens with all the actions
of R25, at a pass counter of 65,535 PASS_LIMIT is posted once, and else nothing more happens. Within the segment entry the
order of an eviction's effects and what becomes of the strip's former life are the model's (logs 8, 14, 20), as is that the
new strip asks for no record write (log 18). -/
def Obligations.EnteringPlayOpensPass : Prop :=
  ∀ (level : Level) (s : State), s.canonical → s.capture.pass = none → s.motion.mode ≠ .unloaded →
    s.motion.mode ≠ .play →
    let declared : Option Run → State := fun run =>
      { s with
        motion := { s.motion with mode := .play, run := run }
        port := s.port.replying [2, 2] .ok (.mode (some .play)) }
    let engaged : State := if s.motion.sync = .synced ∧ s.motion.run = none then (declared (some ⟨none⟩)).attributeWear
      else declared s.motion.run
    ∃ u, Completes (.motion 2 level) s u ∧ OpeningEvent engaged u

/-- TAKE answers BUSY with the taken request, NONE with nothing queued, and otherwise takes the oldest QUEUED request, which
the reply shows as the command found it (R179). -/
def Obligations.TakeAnswersByQueue : Prop :=
  ∀ s : State, s.requestsSound →
    (∀ r ∈ s.requests.queue, r.state ≠ .queued →
      exec .take s = .next { s with port := s.port.replying [3] .busy (.request (some r)) }) ∧
    (s.requests.queue = [] → exec .take s = .next { s with port := s.port.replying [3] .none (.request none) }) ∧
    ∀ r rest, s.requests.queue = r :: rest → (∀ x ∈ s.requests.queue, x.state = .queued) →
      exec .take s = .next
        { s with
          requests := { s.requests with
            queue := { r with state := .taken } :: rest, takeTimer := some (1000 * s.link.profile.takeTimeout)
            lastOutcome := none }
          port := s.port.replying [3] .ok (.request (some r)) }

/-- ABANDON ends the taken request ABANDONED, and refuses every other id by what it names. -/
def Obligations.AbandonEndsTakenRequest : Prop :=
  ∀ (id : Nat) (s : State), s.requestsSound →
    (id = 0 ∨ 255 < id → exec (.abandon id) s = .next { s with port := s.port.replying [4, id] .range (.range none) }) ∧
    (∀ r ∈ s.requests.queue, r.id = id → r.state = .queued →
      exec (.abandon id) s = .next { s with port := s.port.replying [4, id] .none (.range none) }) ∧
    (1 ≤ id → id ≤ 255 → s.idState id = .ended →
      exec (.abandon id) s = .next { s with port := s.port.replying [4, id] .tooLate (.range none) }) ∧
    (1 ≤ id → id ≤ 255 → s.idState id = .neverIssued →
      exec (.abandon id) s = .next { s with port := s.port.replying [4, id] .unknown (.range none) }) ∧
    ∀ r ∈ s.requests.queue, r.id = id → r.state ≠ .queued →
      Completes (.abandon id) s
        { s with
          requests := { s.requests with
            queue := s.requests.queue.filter fun x => x.id ≠ id, takeTimer := none
            lastOutcome := some ⟨.abandoned, ⟨id, r.first, r.last, r.next⟩⟩
            ids := Table.put .neverIssued s.requests.ids id .ended }
          link := s.link.posted (.requestAbandoned ⟨id, r.first, r.last, r.next⟩)
          port := s.port.replying [4, id] .ok (.range (some ⟨id, r.first, r.last, r.next⟩)) }

/-- AHEAD lists the eight segments beyond the position in the direction of motion, nearest first, each with its advised score
of R90, or absent outside the map or beyond the tape end; nothing but the reply changes. The direction is that of R3: by the
mode, and under STOP that of the last pulse, or forward without one. -/
def Obligations.AheadListsEightSegments : Prop :=
  (∀ s : State,
    (s.motion.mode = .play ∨ s.motion.mode = .windForward ∨ s.motion.mode = .unloaded → s.direction = .forward) ∧
    (s.motion.mode = .reversePlay ∨ s.motion.mode = .windReverse → s.direction = .reverse) ∧
    (s.motion.mode = .stop → s.motion.lastDir = none → s.direction = .forward) ∧
    ∀ d, s.motion.mode = .stop → s.motion.lastDir = some d → s.direction = d) ∧
  ∀ s : State,
    let score : Nat → Nat := fun g =>
      match (s.segment g).operatorHazard with
      | some h => h
      | none =>
        let base := (s.segment g).hazard.getD s.link.profile.advisory.unseen
        if (s.segment g).splice = none then base else max base s.link.profile.advisory.spliceHazard
    let limit : Int := s.motion.tapeEnd.getD 2097152
    let place : Int → Option (Nat × Nat) := fun c =>
      if 0 ≤ c ∧ c < 4096 ∧ 512 * c < limit then some (c.toNat, score c.toNat) else none
    let c := s.motion.position / 512
    let l : List Int := [1, 2, 3, 4, 5, 6, 7, 8]
    exec .ahead s = .next
      { s with port := s.port.replying [6] .ok (.places
          (if s.direction = .forward then l.map fun i => place (c + i) else l.map fun i => place (c - i))) }

/-- A transport RESTART with no pass open: the FIFO is emptied and the line lowered, the deck stops, the taken request
returns to the head of the queue, the zone flag is cleared. Under an open pass it also closes the pass. Whichever of the
close and the restart reaches the Request Queue first (a free value, log 1), the pass is closed with cause RESTART. With a
span in progress in the open strip, as every open pass has, the FIFO is empty after the close too, the taken request stands
QUEUED at the head of the queue with its next segment, the timer is stopped and the last outcome is absent. -/
def Obligations.TransportRestartStopsDeck : Prop :=
  (∀ s : State, s.capture.pass = none →
    let stays := s.motion.mode = .unloaded ∨ s.motion.mode = .stop
    Completes .transportRestart s
      { s with
        motion := { s.motion with
          mode := if stays then s.motion.mode else .stop, run := if stays then s.motion.run else none }
        capture := { s.capture with
          limitNoticed := if s.motion.mode = .play then false else s.capture.limitNoticed }
        requests := { s.requests with
          queue := match s.requests.queue.find? fun r => decide (r.state ≠ .queued) with
            | some r => { r with state := .queued } :: s.requests.queue.filter fun x => x.id ≠ r.id
            | none => s.requests.queue
          takeTimer := none, lastOutcome := none }
        advisory := { s.advisory with zone := false }
        port := { transaction := some [7#8], reply := some ⟨.ok, .empty⟩, fifo := [], lost := false, attention := false } }) ∧
  (∀ s : State, s.requestsSound → s.motion.mode = .play → s.capture.pass.isSome = true →
    ∃ t, exec .transportRestart s = .next t ∧ t.motion.mode = .stop ∧ t.motion.run = none ∧ t.capture.pass = none ∧
      t.motion.high = none ∧ t.timebase = none ∧ t.advisory.zone = false ∧ t.requests.takeTimer = none ∧
      t.requests.lastOutcome = none ∧ (∀ r ∈ t.requests.queue, r.state = .queued) ∧
      t.port.reply = some ⟨.ok, .empty⟩) ∧
  ∀ (s : State) (p : OpenPass) (h : HighWater), s.canonical → s.requestsSound → s.motion.mode = .play →
    s.capture.pass = some p → s.motion.high = some h →
    ∃ u, Completes .transportRestart s u ∧
      PassClosed { s with motion := { s.motion with mode := .stop, run := none } } u p .restart h.position ∧
      u.capture.limitNoticed = false ∧ u.advisory = { s.advisory with zone := false } ∧
      u.port.transaction = some [7#8] ∧ u.port.reply = some ⟨.ok, .empty⟩ ∧
      ∀ en x, p.entered = some en → s.capture.span = some x → (s.strip en.strip).state ≠ .vacant →
        x.index < (s.strip en.strip).spans.length →
        u.port = { transaction := some [7#8], reply := some ⟨.ok, .empty⟩, fifo := [], lost := false
                   attention := false } ∧
        u.requests = { s.requests with takeTimer := none, lastOutcome := none, queue := u.requests.queue } ∧
        ((∀ r ∈ s.requests.queue, r.state = .queued) → u.requests.queue = s.requests.queue) ∧
        ∀ r ∈ s.requests.queue, r.state ≠ .queued →
          u.requests.queue = { r with state := .queued } :: s.requests.queue.filter fun x => x.id ≠ r.id

/-! ## Tape position and motion (01) -/

/-- A tachometer pulse, a pass open or not and a head-engaged run active or not: discarded while UNLOADED. A quiet one that
finds no mark moves the position by one, raises the high-water position of an open pass, adds to the edge travel, has wear
attributed (WearCountedOncePerRun) and changes nothing else, but that one in reverse marks the span in progress BACKTRACK. An
edge is accepted at an edge travel of 16 alone: one into clear tape opens a clear interval, one into opaque tape closes it,
and is no mark where R8's table has none. At a limit the position stays, the part is UNSYNCED and a run ends. -/
def Obligations.PulseMovesPosition : Prop :=
  (∀ (d : Dir) (level : Level) (s : State), s.motion.mode = .unloaded →
    exec (.tachometerPulse d level) s = .next s) ∧
  (∀ (d : Dir) (level : Level) (s : State), s.quietPulse d →
    let q := match d with | .forward => s.motion.position + 1 | .reverse => s.motion.position - 1
    let becomes : Nat → Level → Option ClearInterval → Prop := fun travel recorded interval =>
      Completes (.tachometerPulse d level) s ((s.stepped d level).sensed travel recorded interval).attributeWear
    (level = s.motion.sensorLevel ∨ s.motion.edgeTravel < 15 →
      (∀ e, s.motion.clearInterval = some ⟨.forwardEdge e, false⟩ → q < e + 64) →
      (∀ e, s.motion.clearInterval = some ⟨.reverseEdge e, false⟩ → e - 64 < q) →
      becomes (min (s.motion.edgeTravel + 1) 16) s.motion.sensorLevel s.motion.clearInterval) ∧
    (s.motion.sensorLevel = .opaqueTape → level = .clearTape → 15 ≤ s.motion.edgeTravel →
      becomes 0 .clearTape
        (some ⟨match d with | .forward => .forwardEdge q | .reverse => .reverseEdge q, false⟩)) ∧
    (s.motion.sensorLevel = .clearTape → level = .opaqueTape → 15 ≤ s.motion.edgeTravel →
      (s.motion.clearInterval = none ∨ (∃ e, s.motion.clearInterval = some ⟨.forwardEdge e, true⟩) ∨
        (d = .reverse ∧ (s.motion.clearInterval = some ⟨.load, true⟩ ∨
          (∃ e, s.motion.clearInterval = some ⟨.reverseEdge e, true⟩) ∨
          ∃ e, s.motion.clearInterval = some ⟨.forwardEdge e, false⟩)) ∨
        (d = .forward ∧ ∃ e, s.motion.clearInterval = some ⟨.reverseEdge e, false⟩)) →
      becomes 0 .opaqueTape none)) ∧
  ∀ (d : Dir) (s : State), s.motion.mode ≠ .unloaded → s.capture.pass = none → s.motion.high = none →
    (match d with | .forward => 8388607 < s.motion.position + 1 | .reverse => s.motion.position - 1 < -8388608) →
    s.motion.clearInterval = none →
    Completes (.tachometerPulse d s.motion.sensorLevel) s
      { s with
        pins := { s.pins with sensor := s.motion.sensorLevel }
        motion := { s.motion with
          lastDir := some d, edgeTravel := min (s.motion.edgeTravel + 1) 16, sync := .unsynced, run := none } }

/-- Wear is attributed to the segment of the position once in a run: the segment's wear rises by 1, saturating at 255, and
the run's range takes it in; a segment already in the range is left alone. Nothing is attributed with no run, outside ARMED,
outside the map or beyond the tape end. -/
def Obligations.WearCountedOncePerRun : Prop :=
  (∀ s : State, s.motion.run = none ∨ s.map.session ≠ .armed ∨ s.motion.position < 0 ∨ 2097152 ≤ s.motion.position ∨
      (∃ e, s.motion.tapeEnd = some e ∧ e ≤ 512 * (s.motion.position / 512)) →
    s.attributeWear = s) ∧
  ∀ (s : State) (r : Run) (g : Nat), s.canonical → s.motion.run = some r → s.map.session = .armed →
    0 ≤ s.motion.position → s.motion.position < 2097152 → g = (s.motion.position / 512).toNat →
    (∀ e, s.motion.tapeEnd = some e → 512 * (g : Int) < e) →
    (∀ lo hi, r.counted = some (lo, hi) → lo ≤ g → g ≤ hi → s.attributeWear = s) ∧
    ((∀ lo hi, r.counted = some (lo, hi) → g < lo ∨ hi < g) →
      (s.attributeWear.segment g) = { s.segment g with wear := min ((s.segment g).wear + 1) 255 }.restated ∧
      (∀ k, k ≠ g → s.attributeWear.segment k = s.segment k) ∧
      s.attributeWear.motion.run = some ⟨some (match r.counted with
        | some (lo, hi) => (min lo g, max hi g)
        | none => (g, g))⟩ ∧
      s.attributeWear = { s with motion := s.attributeWear.motion, map := s.attributeWear.map })

/-- The marks a quiet pulse finds, the test of R7 met at a level accepted or not yet accepted, a pass open or not and a run
active or not; the wear of the pulse is attributed last. A splice patch gives its segment a splice mark, unless it has one,
when SYNCED, ARMED and in the map, and has no effect otherwise. An end mark of a SYNCED part is the tape end, posted to both
masters, and closes an open pass; it has no effect on an UNSYNCED one beyond the interval. A start mark moves the position by
its slip: from UNSYNCED it brings SYNCED, and a run under PLAY or REVERSE_PLAY; while SYNCED it is a slip correction up to 64
and a sync fault beyond. With no pass open it is then an opening event, and the Advisory Unit recomputes; under an open pass
it recomputes and the new position is reported, which closes the pass where it lies below 0. That a sync fault is posted
before the zone notice of its mark (log 38), that the recomputation comes before that close (log 40), and that an end mark
below 0 leaves no tape end segment (log 30), is the model's choice, as are the order within the segment entry of a pass that
a mark opens (logs 8, 14, 20) and that its strip asks for no record write (log 18). -/
def Obligations.SensorMarksTaken : Prop :=
  (∀ (d : Dir) (level : Level) (s : State), s.canonical → s.quietPulse d →
    let q := match d with | .forward => s.motion.position + 1 | .reverse => s.motion.position - 1
    let c : Instr := .tachometerPulse d level
    let closed : State := (s.stepped d level).sensed 0 .opaqueTape none
    let long : ClearEntry → State := fun e =>
      (s.stepped d level).sensed (min (s.motion.edgeTravel + 1) 16) s.motion.sensorLevel (some ⟨e, true⟩)
    let edge := s.motion.sensorLevel = .clearTape ∧ level = .opaqueTape ∧ 15 ≤ s.motion.edgeTravel
    (∀ l : Int, edge →
      (d = .reverse ∧ l = q ∧ ∃ e, s.motion.clearInterval = some ⟨.reverseEdge e, false⟩) ∨
        (d = .forward ∧ s.motion.clearInterval = some ⟨.forwardEdge l, false⟩) →
      (s.motion.sync = .synced ∧ s.map.session = .armed ∧ 0 ≤ l ∧ l < 2097152 →
        let g := (l / 512).toNat
        ∃ u : State, Completes c s u.attributeWear ∧
          u.segment g =
            { s.segment g with splice := some ((s.segment g).splice.getD (l % 512).toNat) }.restated ∧
          (∀ k, k ≠ g → u.segment k = s.segment k) ∧
          u = { closed with map := { s.map with segments := u.map.segments, counts := u.map.counts } }) ∧
      (¬(s.motion.sync = .synced ∧ s.map.session = .armed ∧ 0 ≤ l ∧ l < 2097152) →
        Completes c s closed.attributeWear)) ∧
    (∀ e : Int, level = s.motion.sensorLevel ∨ s.motion.edgeTravel < 15 → s.motion.clearInterval = some ⟨.forwardEdge e, false⟩ → e + 64 ≤ q →
      (s.motion.sync = .unsynced → Completes c s (long (.forwardEdge e)).attributeWear) ∧
      (s.motion.sync = .synced → Completes c s ((long (.forwardEdge e)).endMark e).attributeWear)) ∧
    ∀ (x : Int) (v : State),
      (edge ∧ d = .forward ∧ x = q ∧ v = closed ∧ (s.motion.clearInterval = some ⟨.load, true⟩ ∨
        ∃ e, s.motion.clearInterval = some ⟨.reverseEdge e, true⟩)) ∨
      ((level = s.motion.sensorLevel ∨ s.motion.edgeTravel < 15) ∧
        s.motion.clearInterval = some ⟨.reverseEdge x, false⟩ ∧ q ≤ x - 64 ∧ v = long (.reverseEdge x)) →
      let judged : State := (v.moveBySlip x).judgeSlip x
      (s.capture.pass = none → ∃ u : State, OpeningEvent judged u ∧
        Completes c s (u.recompute (q - x) u.direction).attributeWear) ∧
      (s.capture.pass ≠ none → 0 ≤ q - x →
        Completes c s (judged.recompute (q - x) judged.direction).attributeWear) ∧
      ∀ p h, s.capture.pass = some p → s.motion.high = some h → q - x < 0 →
        let advised : State := judged.recompute (q - x) judged.direction
        ∃ u : State, Completes c s u.attributeWear ∧ PassClosed advised u p .mapEdge (max h.position q - x) ∧
          u.advisory = advised.advisory) ∧
  (∀ (s : State) (x : Int),
    let moved : Motion := { s.motion with
      position := s.motion.position - x
      high := s.motion.high.map fun h => ⟨h.position - x, h.next⟩ }
    let playing := s.motion.mode = .play ∨ s.motion.mode = .reversePlay
    (s.motion.sync = .unsynced → ¬playing ∨ s.motion.run ≠ none →
      (s.moveBySlip x).judgeSlip x = { s with motion := { moved with sync := .synced } }) ∧
    (s.motion.sync = .unsynced → playing → s.motion.run = none →
      (s.moveBySlip x).judgeSlip x =
        { s with motion := { moved with sync := .synced, run := some ⟨none⟩ } }.attributeWear) ∧
    (s.motion.sync = .synced → x.natAbs ≤ 64 →
      (s.moveBySlip x).judgeSlip x = { s with motion := { moved with
        slipCount := min (s.motion.slipCount + 1) 65535, largestSlip := max s.motion.largestSlip x.natAbs } }) ∧
    (s.motion.sync = .synced → 64 < x.natAbs →
      (s.moveBySlip x).judgeSlip x = { s with
        motion := { moved with syncFaults := min (s.motion.syncFaults + 1) 65535 }
        port := s.port.posted (.syncFault x), link := s.link.posted (.syncFault x)
        capture := { s.capture with span := s.capture.span.map fun c => { c with backtrack := true } } })) ∧
  ∀ (s : State) (e : Int), s.motion.sync = .synced →
    let place := if 0 ≤ e ∧ e < 2097152 then some (e / 512).toNat else none
    (s.capture.pass = none → s.endMark e = { s with
      motion := { s.motion with tapeEnd := some e }, map := { s.map with tapeEndSegment := place }
      port := s.port.posted (.endMark e), link := s.link.posted (.endMark e) }) ∧
    ∀ (p : OpenPass) (h : HighWater), s.canonical → s.capture.pass = some p → s.motion.high = some h →
      ∃ u : State, PassClosed { s with motion := { s.motion with tapeEnd := some e } } u p .endMark h.position ∧
        s.endMark e = { u with
          map := { u.map with tapeEndSegment := place }
          port := u.port.posted (.endMark e), link := u.link.posted (.endMark e) }

/-- The boundaries of a pulse that finds no mark (State.findsNoMark: at any level, with any clear interval, an OPEN one too),
a run active or not; the wear of the pulse is attributed last. With no pass open, a crossing in either direction has the
Advisory Unit recompute for the span entered, and nothing else but that a forward one under PLAY is then an opening event.
Under an open pass a reverse pulse marks the span in progress BACKTRACK, and closes the pass with MAP_EDGE below 0; a forward
one below the next boundary moves the position alone, and closes the pass with END_MARK where the high-water position reaches
the tape end; and one at which it reaches the next boundary, no segment boundary, ends the span in progress: its validity by
R30, its counts, means and residue counts in the span table, its residue counts to the Timebase Unit and its means to the
reference levels when VALID, its qualities now unless a cell of it is unfinished; the next span begins WHOLE. The means in
the record of a span that is not VALID are the model's reading (log 21), as are the order of the two units at a boundary
(logs 9, 26), the moment at which the record shows (log 31) and the order within the segment entry of a pass that a boundary
opens (logs 8, 14, 20), and that its strip asks for no record write (log 18). -/
def Obligations.BoundaryEndsSpan : Prop :=
  ∀ (d : Dir) (level : Level) (s : State) (travel : Nat) (recorded : Level) (interval : Option ClearInterval),
    s.canonical → s.motion.mode ≠ .unloaded → s.findsNoMark d level travel recorded interval →
    let p := s.motion.position
    let q := match d with | .forward => p + 1 | .reverse => p - 1
    let c : Instr := .tachometerPulse d level
    let moved : State := (s.stepped d level).sensed travel recorded interval
    q ≤ 8388607 → -8388608 ≤ q →
    (s.capture.pass = none → s.motion.high = none → (match d with | .forward => q | .reverse => p) % 32 = 0 →
      (s.motion.mode ≠ .play ∨ d = .reverse → Completes c s (moved.recompute q d).attributeWear) ∧
      (s.motion.mode = .play → d = .forward →
        ∃ u : State, OpeningEvent (moved.recompute q .forward) u ∧ Completes c s u.attributeWear)) ∧
    ∀ (pass : OpenPass) (h : HighWater), s.capture.pass = some pass → s.motion.high = some h →
      let high := max h.position q
      let below := ∀ e, s.motion.tapeEnd = some e → high < e
      (d = .reverse → 0 ≤ q → below → Completes c s moved.attributeWear) ∧
      (d = .reverse → q < 0 → ∃ u : State, Completes c s u.attributeWear ∧ PassClosed moved u pass .mapEdge high) ∧
      (d = .forward → 0 ≤ q → high < h.next → below → Completes c s moved.attributeWear) ∧
      (d = .forward → 0 ≤ q → high < h.next → ¬below →
        ∃ u : State, Completes c s u.attributeWear ∧ PassClosed moved u pass .endMark high) ∧
      ∀ (en : Entered) (x : SpanCount) (last : Quad (BitVec 16)) (tb : Timebase),
        d = .forward → 0 ≤ q → below → h.next ≤ high → h.next % 512 ≠ 0 → pass.entered = some en →
        s.capture.span = some x → s.capture.lastResidue = some last → s.timebase = some tb →
        (s.strip en.strip).state ≠ .vacant → x.index < (s.strip en.strip).spans.length →
        let enables := s.capture.settings.enables
        let v : Validity :=
          if s.capture.overrun then .overrun else if x.whole = false then .part else if x.frames = 0 then .empty else .valid
        let count : Quad (BitVec 16) := Quad.ofFn fun t => last.get t - x.startResidue.get t
        let mean : Fin 8 → Nat := fun e => x.sums.get e / x.frames
        let greatest : Fin 4 → Nat := fun t =>
          max (if enables.get (outerOf t) then mean (outerOf t) else 0)
            (if enables.get (innerOf t) then mean (innerOf t) else 0)
        let ended : SpanCount := { x with ended := some v, means := Oct.ofFn mean }
        let waits := s.capture.closing = none ∧ ∃ y, s.capture.cell = some y ∧ 0 < y.taken
        ∃ (u : State) (r : SpanRecord), Completes c s u.attributeWear ∧
          u.motion = { moved.motion with high := some ⟨high, h.next + 32⟩ } ∧
          u.capture = { s.capture with
            span := some (SpanCount.begun en.segment (x.index + 1) s.capture.frameCount last u.capture.reference)
            closing := if waits then some ended else s.capture.closing, reference := u.capture.reference } ∧
          (∀ t, u.capture.reference.get t =
            if v = .valid then max s.capture.settings.levelFloor
              ((s.capture.reference.get t : Int) + Int.tdiv ((greatest t : Int) - s.capture.reference.get t) 8).toNat
            else s.capture.reference.get t) ∧
          u.timebase = some (if v = .valid then (tb.takeSpan count).1 else tb) ∧
          u.strip en.strip = { s.strip en.strip with spans := (s.strip en.strip).spans.set x.index r } ∧
          (∀ k, k ≠ en.strip → u.strip k = s.strip k) ∧
          r = { validity := v, backtrack := x.backtrack, first := x.first, frames := x.frames
                residue := if v = .valid then some count else none, means := Oct.ofFn mean, overload := x.overload
                dropped := x.dropped, cells := x.cells
                quality := if waits then Oct.fill 0 else spanQuality enables ended
                timebase := if v = .valid then some (tb.takeSpan count).2 else none } ∧
          u.advisory = (moved.recompute h.next .forward).advisory ∧ u.port = (moved.recompute h.next .forward).port ∧
          u = { moved with
            motion := u.motion, capture := u.capture, timebase := u.timebase, advisory := u.advisory, port := u.port
            store := { s.store with strips := u.store.strips, recordWrites := u.store.recordWrites } }

/-- The pulse at which the high-water position of an open pass reaches a segment boundary, with no mark found
(State.findsNoMark: at any level, with any clear interval, an OPEN one too); the wear of
the pulse is attributed last. The segment is left: no entry of the pass is open in it and its strip is no longer OPEN; its
entry is COMPLETE exactly when all its spans are VALID, which advances an ACTIVE request for the segment (R113). Then the
next segment is entered (SegmentEntered: room made, the ring's strip taken and its former life evicted, the entry listed),
with its span 0 WHOLE in progress, and given to the request queue (R112), and a run that has not counted it adds 1 to its
wear (R17); or the pass closes, MAP_EDGE at 2,097,152 and END_MARK at or beyond a tape end, and an ACTIVE request is TAKEN
again (R114). That the cause is MAP_EDGE with the tape end at 2,097,152 too is the model's reading (log 42), as are the order
within a segment entry and the former life of its strip (logs 8, 14, 20), that neither the strip entered nor the next field
of the strip left asks for a record write (log 18), and the order of the two units at a boundary (log 9). -/
def Obligations.SegmentBoundaryLeavesSegment : Prop :=
  ∀ (level : Level) (s : State) (travel : Nat) (recorded : Level) (interval : Option ClearInterval) (pass : OpenPass)
      (en : Entered) (h : HighWater) (x : SpanCount) (last : Quad (BitVec 16)),
    s.canonical → s.motion.mode ≠ .unloaded → s.findsNoMark .forward level travel recorded interval → s.capture.pass = some pass → pass.entered = some en →
    s.motion.high = some h → s.capture.span = some x → s.capture.lastResidue = some last →
    (s.strip en.strip).state ≠ .vacant → x.index < (s.strip en.strip).spans.length →
    let q := s.motion.position + 1
    let high := max h.position q
    let c : Instr := .tachometerPulse .forward level
    let moved : State := (s.stepped .forward level).sensed travel recorded interval
    let complete : Bool → Prop := fun b => b = true ↔
      (s.capture.overrun = false ∧ x.whole = true ∧ x.frames ≠ 0) ∧
        ∀ k r, (s.strip en.strip).spans[k]? = some r → k ≠ x.index → r.validity = .valid
    0 ≤ q → q ≤ 8388607 → h.next ≤ high → h.next = 512 * ((en.segment : Int) + 1) →
    let left : State := (moved.endSpan false).leaveSegment pass.number en false
    let closes : CloseCause → Prop := fun cause => ∃ (u : State) (b : Bool), Completes c s u.attributeWear ∧
      PassClosed moved u pass cause high false ∧ complete b ∧
      u.requests = (s.requestFinalized en.segment b).requestPassClosed.requests
    (h.next = 2097152 → closes .mapEdge) ∧
    (∀ e, h.next < 2097152 → s.motion.tapeEnd = some e → e ≤ h.next → closes .endMark) ∧
    (h.next < 2097152 → (∀ e, s.motion.tapeEnd = some e → h.next < e ∧ high < e) →
      let g := en.segment + 1
      ∃ (u : State) (i : Nat) (b : Bool), Completes c s u.attributeWear ∧
        (∀ e ∈ (u.segment en.segment).entries, e.pass = pass.number → e.fields ≠ none) ∧
        u.capture.pass = some ⟨pass.number, some ⟨g, i⟩, g⟩ ∧
        u.capture.frameCount = 0 ∧ u.capture.overrun = false ∧ u.capture.closing = none ∧
        u.capture.cell = some ⟨0, 0, Oct.fill 0⟩ ∧
        u.capture.span = some (SpanCount.begun g 0 0 last u.capture.reference) ∧
        u.capture.settings = s.capture.settings ∧
        u.motion = { moved.motion with high := some ⟨high, h.next + 32⟩ } ∧ (u.strip i).state = .opened ∧
        (u.strip i).owner = some (g, pass.number) ∧
        (u.strip i).descriptor.bind (·.previous) = some en.strip ∧
        (u.segment g).entries.getLast? = some ⟨pass.number, i, none⟩ ∧
        (i ≠ en.strip → (u.strip en.strip).state ≠ .opened) ∧ u.map.passCounter = s.map.passCounter ∧
        u.map.session = s.map.session ∧ complete b ∧
        u.requests = ((s.requestFinalized en.segment b).requestEntered g).requests ∧
        (u.segment g).wear = (s.segment g).wear ∧
        (∃ e : State, SegmentEntered
            { left with capture := { left.capture with pass := some ⟨pass.number, none, pass.lastSegment⟩ } } e g
            pass.number i
            (some en.strip) ∧
          u.advisory = (e.recompute h.next .forward).advisory ∧ u.port = (e.recompute h.next .forward).port ∧
          u = { e with motion := u.motion, capture := u.capture, advisory := u.advisory, port := u.port }) ∧
        ∀ r, s.motion.run = some r → s.map.session = .armed → q = h.next →
          (∀ lo hi, r.counted = some (lo, hi) → hi < g) →
          (u.attributeWear.segment g).wear = min ((s.segment g).wear + 1) 255)

/-! ## Capture (02) and the timebase (03) -/

/-- An element frame: an incomplete one changes nothing; one that comes while no pass is open renews the last residue counts
and clears the input wait; one that comes under overrun renews the counts and is discarded. One that clears the input wait
under PLAY is an opening event: with every condition of R22 it opens a pass, from its own residue counts and discarded itself
(DEDUCED, log 16), at a pass counter of 65,535 it posts PASS_LIMIT once. One under an open pass, not the 64th of its cell nor
the 262,144th of its strip, goes to the capture writer for the open strip and is counted: in the strip, in the span in
progress with every |x| and overload flag, and in the cell. A frame is laid out as 12.1 gives it: the samples of E0 to E7,
the overload flags, the residue counts of T0 to T3; later bytes are ignored. That samples and residue counts come least significant byte first
is the model's reading (log 41), as are the order within a segment entry (logs 8, 14, 20) and that its strip asks for no
record write (log 18). -/
def Obligations.FrameTakenByPassState : Prop :=
  (∀ (f : ElementFrame) (more : List Byte), (∀ e, -8388608 ≤ f.samples.get e ∧ f.samples.get e ≤ 8388607) →
    let bytes : Nat → Nat → List Byte := fun w n => (List.range w).map fun k => BitVec.ofNat 8 (n / 256 ^ k)
    readElementFrame ((List.finRange 8).flatMap (fun e => bytes 3 (f.samples.get e % 16777216).toNat) ++ [f.overload] ++
      (List.finRange 4).flatMap (fun t => bytes 2 (f.residue.get t).toNat) ++ more) = some f) ∧
  (∀ (bs : List Byte) (s : State), bs.length < 33 → exec (.elementFrame bs) s = .next s) ∧
  (∀ (bs : List Byte) (s : State), 33 ≤ bs.length →
    let counts : Quad (BitVec 16) := Quad.ofFn fun t => BitVec.ofNat 16
      ((bs.getD (25 + 2 * t.val) 0#8).toNat + 256 * (bs.getD (26 + 2 * t.val) 0#8).toNat)
    let idle : State := { s with capture := { s.capture with lastResidue := some counts, inputWait := false } }
    let may := s.map.session = .armed ∧ s.motion.sync = .synced ∧ 0 ≤ s.motion.position ∧ s.motion.position < 2097152 ∧
      ∀ e, s.motion.tapeEnd = some e → s.motion.position < e
    (s.capture.pass = none → s.motion.mode ≠ .play ∨ s.capture.inputWait = false ∨ ¬may →
      Completes (.elementFrame bs) s idle) ∧
    (s.capture.pass = none → s.motion.mode = .play → s.capture.inputWait = true → may →
      (65535 ≤ s.map.passCounter → Completes (.elementFrame bs) s
        { idle with
          capture := { idle.capture with limitNoticed := true }
          link := if s.capture.limitNoticed then s.link else s.link.posted .passLimit }) ∧
      (s.canonical → s.map.passCounter < 65535 → ∃ u i, Completes (.elementFrame bs) s u ∧ PassOpened idle u counts i ∧
        u.capture.inputWait = false ∧ u.capture.lastResidue = some counts)) ∧
    (s.capture.pass.isSome = true → s.capture.overrun = true →
      Completes (.elementFrame bs) s { idle with capture := { idle.capture with inputTimer := true } })) ∧
  ∀ (bs : List Byte) (f : ElementFrame) (s : State) (p : OpenPass) (en : Entered) (x : SpanCount) (c : Cell),
    readElementFrame bs = some f → s.capture.pass = some p → p.entered = some en → s.capture.overrun = false →
    s.capture.span = some x → s.capture.cell = some c → c.taken + 1 ≠ 64 → s.capture.frameCount + 1 ≠ 262144 →
    Completes (.elementFrame bs) s
      { s with
        store := { s.store with writeBuffer := s.store.writeBuffer ++ [(en.strip, ⟨f.samples, f.overload⟩)] }
        capture := { s.capture with
          lastResidue := some f.residue, inputWait := false, inputTimer := true, frameCount := s.capture.frameCount + 1
          span := some { x with
            frames := x.frames + 1
            sums := Oct.ofFn fun e => x.sums.get e + (f.samples.get e).natAbs
            overload := Oct.ofFn fun e => x.overload.get e + (f.overload.getLsbD e.val).toNat }
          cell := some { c with
            taken := c.taken + 1, sums := Oct.ofFn fun e => c.sums.get e + (f.samples.get e).natAbs } } }

/-- The judgement of a capture cell. The 64th frame of a cell has it judged against the snapshot of its span, the closing
span if there is one: the result enters the dropout map, the span's counts and the tallies, and completes a closing span,
whose qualities enter the span table. The frame that makes the frame count 262,144 begins overrun, after which there is no
cell (log 37). A span's qualities follow the four steps of R37, and are 0 for a span that is not VALID and for a disabled
element. R39 says of the spans of an overrun strip that their qualities are 0; that this is said of its OVERRUN spans, and a
span that ended VALID before overrun keeps its qualities, is the model's reading (log 44). At the strip's end a last cell of
1 to 63 frames is judged with the frames it holds and completes the closing span, a cell without frames is not judged, spans
never in progress take the frame count as their first frame (at this moment: log 22), and the entry is assembled from the
span table that stands then (R28 steps 1 and 2, R42 step 2; FinalizationSetsHazard has the entry). The records show the
judgement at its event (the model's choice, log 31); a frame's multi-byte fields are read low byte first (log 41). -/
def Obligations.FullCellIsJudged : Prop :=
  (∀ (bs : List Byte) (f : ElementFrame) (s : State) (p : OpenPass) (en : Entered) (x : SpanCount) (c : Cell),
    s.canonical → readElementFrame bs = some f → s.capture.pass = some p → p.entered = some en →
    s.capture.overrun = false → s.capture.span = some x → s.capture.cell = some c → c.taken = 63 →
    (s.strip en.strip).state ≠ .vacant →
    let set := s.capture.settings
    let owner := s.capture.closing.getD x
    let dropped : Fin 8 → Bool := fun e => decide
      ((c.sums.get e + (f.samples.get e).natAbs) / 64 * 256 < owner.snapshot.get (trackOf e) * set.dropThreshold)
    let counted : Fin 8 → Nat := fun e => (set.enables.get e && dropped e).toNat
    let judged : SpanCount → SpanCount := fun y =>
      { y with cells := y.cells + 1, dropped := Oct.ofFn fun e => y.dropped.get e + counted e }
    let grown : SpanCount := { x with
      frames := x.frames + 1
      sums := Oct.ofFn fun e => x.sums.get e + (f.samples.get e).natAbs
      overload := Oct.ofFn fun e => x.overload.get e + (f.overload.getLsbD e.val).toNat }
    let fills := s.capture.frameCount + 1 = 262144
    ∃ u flags, Completes (.elementFrame bs) s u ∧
      u.capture = { s.capture with
        lastResidue := some f.residue, inputWait := false, inputTimer := true, frameCount := s.capture.frameCount + 1
        overrun := decide fills, cell := if c.index < 4095 then some ⟨c.index + 1, 0, Oct.fill 0⟩ else none
        span := some (if s.capture.closing = none then judged grown else grown), closing := none
        tallies := Oct.ofFn fun e => min (s.capture.tallies.get e + counted e) 65535 } ∧
      (∀ e : Fin 8, flags.getLsbD e.val = (!set.enables.get e || dropped e)) ∧
      u.strip en.strip = { s.strip en.strip with
        dropout := (s.strip en.strip).dropout ++ [flags]
        descriptor := (s.strip en.strip).descriptor.map fun d => { d with overrun := d.overrun || decide fills }
        spans := match s.capture.closing with
          | none => (s.strip en.strip).spans
          | some y => (s.strip en.strip).spans.modify y.index fun r =>
            { r with
              cells := (judged y).cells, dropped := (judged y).dropped
              quality := spanQuality set.enables (judged y) } } ∧
      (∀ k, k ≠ en.strip → u.strip k = s.strip k) ∧
      u = { s with
        capture := u.capture
        store := { s.store with
          writeBuffer := s.store.writeBuffer ++ [(en.strip, ⟨f.samples, f.overload⟩)]
          strips := u.store.strips, recordWrites := u.store.recordWrites } }) ∧
  (∀ (s : State) (p : OpenPass) (en : Entered) (c : Cell), s.canonical → s.capture.pass = some p → p.entered = some en →
    s.capture.cell = some c → (s.strip en.strip).state ≠ .vacant →
    let set := s.capture.settings
    let close : SpanRecord → SpanRecord := fun r =>
      if r.validity = .unreached then { r with first := s.capture.frameCount, frames := 0 } else r
    let u := s.endStrip en.strip
    u = { s with
      capture := u.capture
      store := { s.store with strips := u.store.strips, recordWrites := u.store.recordWrites } } ∧
    (∀ k, k ≠ en.strip → u.strip k = s.strip k) ∧
    (∀ number lost, s.leaveSegment number en lost = u.takeEntry en.segment number en.strip
      (assembleEntry (u.strip en.strip).spans s.capture.overrun lost)) ∧
    (c.taken = 0 → u.capture = { s.capture with cell := none, closing := none } ∧
      u.strip en.strip = { s.strip en.strip with spans := (s.strip en.strip).spans.map close }) ∧
    ∀ x, 0 < c.taken → s.capture.closing = some x →
      let dropped : Fin 8 → Bool := fun e => decide
        (c.sums.get e / c.taken * 256 < x.snapshot.get (trackOf e) * set.dropThreshold)
      let counted : Fin 8 → Nat := fun e => (set.enables.get e && dropped e).toNat
      let judged : SpanCount := { x with
        cells := x.cells + 1, dropped := Oct.ofFn fun e => x.dropped.get e + counted e }
      u.capture = { s.capture with
        cell := none, closing := none
        tallies := Oct.ofFn fun e => min (s.capture.tallies.get e + counted e) 65535 } ∧
      ∃ flags : Byte, (∀ e : Fin 8, flags.getLsbD e.val = (!set.enables.get e || dropped e)) ∧
        u.strip en.strip = { s.strip en.strip with
          dropout := (s.strip en.strip).dropout ++ [flags]
          spans := ((s.strip en.strip).spans.modify x.index fun r =>
            { r with cells := judged.cells, dropped := judged.dropped, quality := spanQuality set.enables judged }).map
              close }) ∧
  ∀ (enables : Oct Bool) (x : SpanCount) (e : Fin 8),
    let q := (spanQuality enables x).get e
    let zero := x.ended ≠ some .valid ∨ enables.get e = false ∨ x.cells = 0 ∨ x.backtrack = true ∨
      x.means.get e * 4 < x.snapshot.get (trackOf e)
    (zero → q = 0) ∧
    (¬zero → x.overload.get e = 0 → q = 15 - 15 * x.dropped.get e / x.cells) ∧
    (¬zero → 0 < x.overload.get e → q = 15 - 15 * x.dropped.get e / x.cells - 4)

/-- A side whose last applied length lies in the lock window applies a length in the window to the next VALID span, stores
it, and carries the sum of fractions on. The lock of a side with a residue source follows R51 and R52: it locks at the eighth
accepted span in a row and falls back at the fourth rejected one, holding before that; a TACH side stays TACH. The applied
length is the target itself where the lock changes and jump is on, and else moves towards it by at most the slew limits. A
VALID span is taken so for each side, with the pass's settings, its T_tach and the side's own source, and leaves these as
they are. -/
def Obligations.AppliedLengthFollowsLock : Prop :=
  (∀ (t : Timebase) (c : Quad (BitVec 16)) (sd : Side),
    let r := t.takeSpan c
    r.1.settings = t.settings ∧ r.1.tTach = t.tTach ∧
      (r.1.sides.get sd, r.2.get sd) = sideSpan t.settings t.tTach sd (t.settings.source.get sd) (t.sides.get sd) c) ∧
  ∀ (p : TimebaseSettings) (tTach : Nat) (sd : Side) (src : Source) (x : SideTimebase) (c : Quad (BitVec 16)),
    let r := sideSpan p tTach sd src x c
    let slew : Int → Int := fun target => x.nPrev + max (-(p.slewDown : Int)) (min p.slewUp (target - x.nPrev))
    let becomes : LockState → Nat → Nat → Option Bool → Int → Prop := fun lock accepts rejects verdict n =>
      r.1.lock = lock ∧ r.1.acceptRun = accepts ∧ r.1.rejectRun = rejects ∧ r.2.accepted = verdict ∧ r.1.nPrev = n
    (r.2.applied = r.1.nPrev ∧ r.2.lock = r.1.lock ∧ r.2.fraction = x.accumulator ∧ r.1.accumulator < 65536 ∧
      (r.1.accumulator : Int) = (x.accumulator + r.2.applied) % 65536) ∧
    ((x.nPrev - tTach).natAbs * 1024 ≤ tTach * p.window → (r.1.nPrev - tTach).natAbs * 1024 ≤ tTach * p.window) ∧
    (src = .tach → x.lock = .tach → becomes .tach x.acceptRun x.rejectRun none (slew tTach)) ∧
    ∀ t : Fin 4, (sd, src, t) ∈ ([(.A, .resLeft, 0), (.A, .resRight, 1), (.B, .resLeft, 3), (.B, .resRight, 2)] :
        List (Side × Source × Fin 4)) →
      let n : Nat := ((c.get t).toNat * 6291456000 + p.bias / 2) / p.bias
      let accepted := ((n : Int) - tTach).natAbs * 1024 ≤ tTach * p.window
      (x.lock = .unlocked → accepted → x.acceptRun < 7 →
        becomes .unlocked (x.acceptRun + 1) 0 (some true) (slew tTach)) ∧
      (x.lock = .unlocked → accepted → x.acceptRun = 7 →
        becomes .locked 8 0 (some true) (if p.jump then (n : Int) else slew n)) ∧
      (x.lock = .unlocked → ¬accepted → becomes .unlocked 0 0 (some false) (slew tTach)) ∧
      (x.lock = .locked → accepted → becomes .locked x.acceptRun 0 (some true) (slew n)) ∧
      (x.lock = .locked → ¬accepted → x.rejectRun < 3 →
        becomes .locked x.acceptRun (x.rejectRun + 1) (some false) x.nPrev) ∧
      (x.lock = .locked → ¬accepted → x.rejectRun = 3 →
        becomes .unlocked 0 0 (some false) (if p.jump then (tTach : Int) else slew tTach))

/-! ## The capture store (04) and the tape map (05) -/

/-- The ring takes the first strip from the pointer upwards, wrapping, that is VACANT, or HELD for a segment not kept. The
fifth-pass victim of finalized entries is first excluded, then of lowest mean quality, then of lowest pass. A segment entry
acts on both (SegmentEntered, Safety.lean): a victim's entry removed and its strip vacated, the ring's strip taken with the
pointer one past it, its descriptor and span table fresh (R67), the entry of its former life removed with SEGMENT_GONE where
R81 asks for it, the new entry listed. The order within it, the blank strip of a victim, and that writes of a strip's former
life are dropped, is the model's (logs 8, 14, 20), as is that an allocation, its descriptor, span table and next field ask
for no record write (log 18). -/
def Obligations.RingAndVictimChosenInOrder : Prop :=
  (∀ s : State, s.store.ringPointer < s.store.stripCount →
    let may : Nat → Prop := fun i =>
      (s.strip i).state = .vacant ∨
        ((s.strip i).state = .held ∧ ∀ o, (s.strip i).owner = some o → (s.segment o.1).keep = false)
    (∃ i < s.store.stripCount, may i) →
    ∃ d < s.store.stripCount, s.ringScan = (s.store.ringPointer + d) % s.store.stripCount ∧ may s.ringScan ∧
      ∀ k < d, ¬may ((s.store.ringPointer + k) % s.store.stripCount)) ∧
  (∀ (s : State) (g pass : Nat) (previous : Option Nat), s.canonical →
    SegmentEntered s (s.enterMap g pass previous).1 g pass (s.enterMap g pass previous).2 previous) ∧
  ∀ l : List Entry, l ≠ [] → (∀ e ∈ l, e.fields.isSome = true) →
    ∃ v f, victimOf l = some v ∧ v ∈ l ∧ v.fields = some f ∧
      ∀ e ∈ l, ∀ h, e.fields = some h →
        (h.exclude = true → f.exclude = true) ∧
        (h.exclude = f.exclude → f.quality.toList.sum / 4 ≤ h.quality.toList.sum / 4) ∧
        (h.exclude = f.exclude → f.quality.toList.sum / 4 = h.quality.toList.sum / 4 → v.pass ≤ e.pass)

/-- The entry assembled from a span table (R29), and what the Map Controller makes of it (R85, R86, R89). With a VALID span
the open entry takes it, its strip is HELD, the segment's version rises and its hazard is 255 − 17 × its lowest track
quality; then the request queue and the render engine have it. With none the open entry is removed, the version rises, the
hazard stays and the strip is vacated: with it the reads of the strip end EVICTED and a job that reads it is aborted. That
the vacated strip is blank (log 14), and the order entry, strip, reads, abort with its take attempt (log 20), is the model's
choice. -/
def Obligations.FinalizationSetsHazard : Prop :=
  (∀ (l : List SpanRecord) (overrun lost : Bool),
    let f := assembleEntry l overrun lost
    let valid := l.filter fun r => r.validity = .valid
    let sum : Fin 4 → Nat := fun t =>
      (valid.map fun r => max (r.quality.get (outerOf t)) (r.quality.get (innerOf t))).sum
    f.validity = l.map (·.validity) ∧ (f.complete = true ↔ ∀ r ∈ l, r.validity = .valid) ∧
      (valid ≠ [] → ∀ t, f.quality.get t * valid.length ≤ sum t ∧ sum t < (f.quality.get t + 1) * valid.length) ∧
      (∀ sd, f.locked.get sd = (l.filter fun r => r.timebase.any fun t => (t.get sd).lock = .locked).length) ∧
      f.overrun = overrun ∧ (f.backtrack = true ↔ ∃ r ∈ l, r.backtrack = true) ∧ f.inputLost = lost ∧ f.exclude = false) ∧
  ∀ (s : State) (g pass i : Nat) (f : EntryFields), s.canonical → (∀ t, f.quality.get t ≤ 15) →
    (s.strip i).state ≠ .vacant →
    (Validity.valid ∈ f.validity → ∃ (u : State) (t : Fin 4), (∀ k, f.quality.get t ≤ f.quality.get k) ∧
      u.segment g = { s.segment g with
        entries := (s.segment g).entries.map fun (e : Entry) => if e.pass = pass then { e with fields := some f } else e
        hazard := some (255 - 17 * f.quality.get t), changes := (s.segment g).changes + 1 }.restated ∧
      (∀ k, k ≠ g → u.segment k = s.segment k) ∧
      u.strip i = { s.strip i with state := .held } ∧ (∀ k, k ≠ i → u.strip k = s.strip k) ∧
      u = { s with
        map := { s.map with segments := u.map.segments, counts := u.map.counts }
        store := { s.store with strips := u.store.strips } } ∧
      s.takeEntry g pass i f = (u.requestFinalized g f.complete).autoOnFinalized pass g ∧
      ((s.takeEntry g pass i f).segment g).hazard = some (255 - 17 * f.quality.get t)) ∧
    (Validity.valid ∉ f.validity → ∃ u : State, EntryVacated s u g pass i ∧
      s.takeEntry g pass i f = u.jobStripLost i ∧
      ((s.takeEntry g pass i f).segment g).hazard = (s.segment g).hazard)

/-- The writer asks first for the frames at the head of its buffer: 64 of a strip, or all that stand there of a strip that
has ended with fewer; else for the oldest record write waiting (R78). What it asks for is formed afresh at each grant, so
that frames that fall due while a request for a record write is held go first: the model's choice (log 45). The Render Engine asks while its job has no burst and
the next strip it reads is OPEN or has Ended yes, or all are read and pairs wait to be written (the order of a job's bursts
is the model's, log 7); the link asks for its oldest read, while that has no burst and its strip, if it reads one, is OPEN or
has Ended yes. The arbiter grants nothing while a burst is in progress. Idle, it grants the writer if it asks; else, of two
readers that ask, the one not served last; else the one that asks. It grants at once after every event: what an event leaves
is settled by a grant and then the transmitter's choice (Completes says so of each), a settled store is idle only while
nobody asks, and every event keeps that. That a requester with more to do takes part in the grant made at its own burst's
completion is the model's reading (DEDUCED, log 23). A completed writer burst: frames join their strip in order and leave the
buffer, a record block of a strip with nothing left to write makes Ended yes (log 31), and the rest of the store is as it
was. That nothing changes without a writer burst in progress is the model's choice (log 11). -/
def Obligations.WriterServedFirstAndStored : Prop :=
  (∀ s : State,
    let records : Option WriteBurst := s.store.recordWrites.head?.map fun w => .records w.1 w.2
    (s.store.writeBuffer = [] → s.writerRequest = records) ∧
    ∀ (i n : Nat) (f : StoredFrame) (rest : List (Nat × StoredFrame)), s.store.writeBuffer = (i, f) :: rest →
      n = (s.store.writeBuffer.takeWhile fun w => w.1 = i).length →
      (64 ≤ n → s.writerRequest = some (.frames i 64)) ∧
      (n < 64 → (s.strip i).state ≠ .opened → s.writerRequest = some (.frames i n)) ∧
      (n < 64 → (s.strip i).state = .opened → s.writerRequest = records)) ∧
  (∀ s : State,
    let may : Nat → Prop := fun i => (s.strip i).state = .opened ∨
      ((s.strip i).state = .held ∧ ∃ d, (s.strip i).descriptor = some d ∧ d.ended = true)
    (s.renderWants = true ↔ ∃ j, s.render.job = some j ∧ j.bursting = false ∧
      ((∃ i rest, j.toRead = i :: rest ∧ may i) ∨ (j.toRead = [] ∧ j.generated ≠ []))) ∧
    (s.linkWants = true ↔ ∃ before c after r, s.link.commands = before ++ c :: after ∧
      (∀ x ∈ before, ∃ f d, x.answer = .formed f d) ∧ c.answer = .reading r ∧ r.burst = none ∧
      ∀ i e f n, r.target = .strip i ∨ r.target = .raw i e f n → may i)) ∧
  (∀ s : State, s.settle = s.grant.transmit ∧ s.settle.storeServed) ∧
  (∀ (c : Instr) (s t : State), s.storeServed → exec c s = .next t → t.storeServed) ∧
  (∀ s : State,
    (s.store.burst ≠ none → s.grant = s) ∧
    (s.store.burst = none →
      (∀ b, s.writerRequest = some b → s.grant.store.burst = some .writer ∧ s.grant.store.writeBurst = some b ∧
        s.grant.store.lastReader = s.store.lastReader ∧
        s.grant = { s with store := { s.store with
          burst := some .writer, writeBurst := some b
          recordWrites := match b with
            | .frames _ _ => s.store.recordWrites
            | .records _ _ => s.store.recordWrites.drop 1 } }) ∧
      (s.writerRequest = none → s.renderWants = true → s.linkWants = false ∨ s.store.lastReader = .link →
        s.grant.store.burst = some .render ∧ s.grant.store.lastReader = .render) ∧
      (s.writerRequest = none → s.linkWants = true → s.renderWants = false ∨ s.store.lastReader = .render →
        s.grant.store.burst = some .link ∧ s.grant.store.lastReader = .link) ∧
      (s.writerRequest = none → s.renderWants = false → s.linkWants = false → s.grant = s))) ∧
  (∀ s : State, s.store.burst ≠ some .writer → Completes .writeBurstComplete s s) ∧
  (∀ (s : State) (i n : Nat), s.canonical → s.store.burst = some .writer → s.store.writeBurst = some (.frames i n) →
    (s.strip i).state ≠ .vacant →
    ∃ u, Completes .writeBurstComplete s u ∧
      u.strip i = { s.strip i with
        frames := (s.strip i).frames ++ ((s.store.writeBuffer.filter fun w => w.1 = i).take n).map (·.2) } ∧
      (∀ k, k ≠ i → u.strip k = s.strip k) ∧
      (∀ k, k ≠ i → (u.store.writeBuffer.filter fun w => w.1 = k) = s.store.writeBuffer.filter fun w => w.1 = k) ∧
      (u.store.writeBuffer.filter fun w => w.1 = i) = (s.store.writeBuffer.filter fun w => w.1 = i).drop n ∧
      u = { s with store := { s.store with
        strips := u.store.strips, writeBuffer := u.store.writeBuffer, burst := none, writeBurst := none } }) ∧
  ∀ (s : State) (i : Nat) (b : RecordBlock) (d : Descriptor), s.canonical → s.store.burst = some .writer →
    s.store.writeBurst = some (.records i b) → (s.strip i).state = .held → (s.strip i).descriptor = some d →
    (∀ w ∈ s.store.writeBuffer, w.1 ≠ i) → (∀ w ∈ s.store.recordWrites, w.1 ≠ i) →
    ∃ u, Completes .writeBurstComplete s u ∧
      u.strip i = { s.strip i with descriptor := some { d with ended := true } } ∧
      (∀ k, k ≠ i → u.strip k = s.strip k) ∧
      u = { s with store := { s.store with strips := u.store.strips, burst := none, writeBurst := none } }

/-- KEEP marks a range within the kept limit and UNKEEP unmarks one; the counts of segments and strips follow, no version
changes, and a range outside the map or a charge above the limit changes nothing. -/
def Obligations.KeepWithinLimit : Prop :=
  ∀ (first last : Nat) (s : State), s.canonical → s.hasRoom →
    let range := (List.range (last + 1 - first)).map fun i => first + i
    let free := range.filter fun g => (s.segment g).keep = false
    let kept := range.filter fun g => (s.segment g).keep = true
    let strips : List Nat → Nat := fun l => (l.map fun g => (s.segment g).entries.length).sum
    (last < first ∨ 4096 ≤ last →
      Completes (.keep first last) s (s.answering 35 .range .empty) ∧
      Completes (.unkeep first last) s (s.answering 36 .range .empty)) ∧
    (first ≤ last → last < 4096 →
      (s.store.stripCount / 4 < 4 * (s.store.keptSegments + free.length) →
        Completes (.keep first last) s (s.answering 35 .keepLimit .empty)) ∧
      (4 * (s.store.keptSegments + free.length) ≤ s.store.stripCount / 4 →
        ∃ u, Completes (.keep first last) s u ∧
          (∀ g, u.segment g = if first ≤ g ∧ g ≤ last then { s.segment g with keep := true }.restated else s.segment g) ∧
          u = { s with
            map := { s.map with segments := u.map.segments, counts := u.map.counts }
            store := { s.store with
              keptSegments := s.store.keptSegments + free.length, keptStrips := s.store.keptStrips + strips free }
            link := s.link.answered 35 .ok (.count (s.store.keptSegments + free.length)) }) ∧
      ∃ u, Completes (.unkeep first last) s u ∧
        (∀ g, u.segment g = if first ≤ g ∧ g ≤ last then { s.segment g with keep := false }.restated else s.segment g) ∧
        u = { s with
          map := { s.map with segments := u.map.segments, counts := u.map.counts }
          store := { s.store with
            keptSegments := s.store.keptSegments - kept.length, keptStrips := s.store.keptStrips - strips kept }
          link := s.link.answered 36 .ok (.count (s.store.keptSegments - kept.length)) })

/-- EXCLUDE and INCLUDE give a finalized entry's exclude field the value asked; the version rises by 1 exactly when the value
changes, and the answer carries the version after the command. The refusals are RANGE, NOT_HELD and BUSY in that order. -/
def Obligations.ExcludeSetsEntryField : Prop :=
  ∀ (g pass : Nat) (v : Bool) (s : State), s.canonical → s.hasRoom →
    let c : Instr := if v then .excludePass g pass else .includePass g pass
    (4096 ≤ g → Completes c s (s.answering 34 .range .empty)) ∧
    (g < 4096 → (∀ e ∈ (s.segment g).entries, e.pass ≠ pass) → Completes c s (s.answering 34 .notHeld .empty)) ∧
    (g < 4096 → ∀ e, (s.segment g).entries.find? (fun e => e.pass = pass) = some e →
      (e.fields = none → Completes c s (s.answering 34 .busy .empty)) ∧
      ∀ f, e.fields = some f →
        (f.exclude = v → Completes c s (s.answering 34 .ok (.version (s.segment g).version))) ∧
        (f.exclude ≠ v → ∃ u, Completes c s u ∧
          u.segment g = { s.segment g with
            changes := (s.segment g).changes + 1
            entries := (s.segment g).entries.map fun (e : Entry) =>
              if e.pass = pass then ⟨e.pass, e.strip, e.fields.map fun (f : EntryFields) => { f with exclude := v }⟩
              else e }.restated ∧
          (∀ k, k ≠ g → u.segment k = s.segment k) ∧
          u = { s with
            map := { s.map with segments := u.map.segments, counts := u.map.counts }
            link := s.link.answered 34 .ok (.version ((s.segment g).version + 1#32)) }))

/-- SET_HAZARD and CLEAR_HAZARD give a range of segments an operator hazard or none, SET_SPLICE and CLEAR_SPLICE a segment a
splice mark or none. No version changes. Outside their ranges they are answered RANGE and change nothing. -/
def Obligations.AnnotationsMarkSegments : Prop :=
  ∀ (first last x : Nat) (s : State), s.canonical → s.hasRoom →
    (last < first ∨ 4096 ≤ last → Completes (.setHazard first last x) s (s.answering 34 .range .empty) ∧
      Completes (.clearHazard first last) s (s.answering 34 .range .empty)) ∧
    (first ≤ last → last < 4096 →
      (∀ c v, (c = Instr.setHazard first last x ∧ v = some x ∧ x ≤ 255) ∨ (c = Instr.clearHazard first last ∧ v = none) →
        ∃ u, Completes c s u ∧
          (∀ g, u.segment g =
            if first ≤ g ∧ g ≤ last then { s.segment g with operatorHazard := v }.restated else s.segment g) ∧
          u = { s with
            map := { s.map with segments := u.map.segments, counts := u.map.counts }
            link := s.link.answered 34 .ok .empty })) ∧
    (4096 ≤ first ∨ 511 < x → Completes (.setSplice first x) s (s.answering 34 .range .empty)) ∧
    (4096 ≤ first → Completes (.clearSplice first) s (s.answering 34 .range .empty)) ∧
    (first < 4096 →
      (∀ c v, (c = Instr.setSplice first x ∧ v = some x ∧ x ≤ 511) ∨ (c = Instr.clearSplice first ∧ v = none) →
        ∃ u, Completes c s u ∧ u.segment first = { s.segment first with splice := v }.restated ∧
          (∀ g, g ≠ first → u.segment g = s.segment g) ∧
          u = { s with
            map := { s.map with segments := u.map.segments, counts := u.map.counts }
            link := s.link.answered 34 .ok .empty }))

/-- PROFILE_READ, MAP_SUMMARY, QUEUE_READ, MAP_READ and SLOT_READ answer from the state as it stands and change nothing;
TALLY_READ answers with the sixteen tallies and sets them to 0. The result fields go out as R203 and R204 lay them out, byte
by byte. A READY slot is shown stale when its segment has changed since its take, by the whole count of changes (the model's
reading, log 36). -/
def Obligations.ReadCommandsAnswerFromState : Prop :=
  let bytes : Nat → Nat → List Byte := fun w n => (List.range w).map fun k => BitVec.ofNat 8 (n / 256 ^ k)
  let absent : Nat → Option Nat → List Byte := fun w o => bytes w (o.getD (256 ^ w - 1))
  let zeros : Nat → List Byte := fun n => List.replicate n 0#8
  let code : Validity → Nat
    | .valid => 0 | .overrun => 1 | .cut => 2 | .part => 3 | .empty => 4 | .unreached => 5
  let entry : Entry → List Byte := fun e => bytes 2 e.pass ++ bytes 2 e.strip ++ match e.fields with
    | none => zeros 8 ++ bytes 1 32 ++ zeros 4
    | some f =>
      (List.range 8).flatMap (fun k =>
        bytes 1 (code (f.validity.getD (2 * k) .valid) + 16 * code (f.validity.getD (2 * k + 1) .valid))) ++
      bytes 1 (f.complete.toNat + 2 * f.overrun.toNat + 4 * f.backtrack.toNat + 8 * f.inputLost.toNat +
        16 * f.exclude.toNat) ++
      bytes 2 (f.quality.get 0 + 16 * f.quality.get 1 + 256 * f.quality.get 2 + 4096 * f.quality.get 3) ++
      bytes 1 f.locked.a ++ bytes 1 f.locked.b
  let rendition : RenditionField → List Byte := fun f => absent 1 f.slot ++ absent 3 f.unrecovered
  let slot : SlotView → List Byte := fun v =>
    bytes 1 v.index ++ bytes 1 (match v.head, v.ready with | none, _ => 0 | some _, none => 1 | some _, some _ => 2) ++
      (match v.head with
        | some h => bytes 2 h.segment ++ bytes 1 (match h.side with | .A => 0 | .B => 1) ++ bytes 4 h.changes ++
            bytes 3 h.sampleCount
        | none => zeros 10) ++
      (match v.ready with
        | some r => bytes 1 v.stale.toNat ++ bytes 2 r.unrecovered0 ++ bytes 2 r.unrecovered1 ++ bytes 2 r.alignEdge ++
            bytes 1 v.rank ++ bytes 1 r.fetched.toNat
        | none => zeros 9)
  (∀ p, (Result.profile p).bytes = p.image) ∧
  (∀ (k : Nat) (r : Segment),
    (∀ e ∈ r.entries, ∀ f, e.fields = some f → f.validity.length = 16 ∧ ∀ t, f.quality.get t ≤ 15) →
    (Result.records [(k, r)]).bytes =
      bytes 2 k ++ bytes 1 (match r.state with | .unseen => 0 | .opened => 1 | .held => 2 | .gone => 3) ++
        bytes 1 r.entries.length ++ bytes 1 r.wear ++ absent 2 r.hazard ++ absent 2 r.operatorHazard ++
        absent 2 r.splice ++ bytes 1 r.keep.toNat ++ bytes 4 r.changes ++ rendition r.rendition.a ++
        rendition r.rendition.b ++ r.entries.flatMap entry) ∧
  (∀ x l, (Result.records (x :: l)).bytes = (Result.records [x]).bytes ++ (Result.records l).bytes) ∧
  (Result.records []).bytes = [] ∧
  (∀ m : Summary, (Result.summary m).bytes =
    bytes 1 (match m.session with | .vacant => 0 | .armed => 1 | .detached => 2 | .stale => 3) ++ bytes 2 m.passCounter ++
      (match m.openPass with | some (p, g) => bytes 2 p ++ bytes 2 g | none => zeros 4) ++ absent 2 m.tapeEndSegment ++
      bytes 2 m.counts.unseen ++ bytes 2 m.counts.opened ++ bytes 2 m.counts.held ++ bytes 2 m.counts.gone ++
      bytes 2 m.entries ++ bytes 2 m.stripCount ++ bytes 2 m.keptSegments ++ bytes 2 m.keptStrips ++
      bytes 1 m.largestSlip ++ bytes 2 m.slipCount ++ bytes 2 m.syncFaults) ∧
  (∀ q : QueueView, (Result.queue q).bytes = bytes 1 q.lastId ++
    (match q.lastOutcome with
      | none => zeros 8
      | some o => bytes 1 o.facts.id ++
          bytes 1 (match o.outcome with | .done => 0 | .cancelled => 1 | .expired => 2 | .abandoned => 3) ++
          bytes 2 o.facts.first ++ bytes 2 o.facts.last ++ bytes 2 o.facts.next) ++
    bytes 1 q.requests.length ++ q.requests.flatMap fun r =>
      bytes 1 r.id ++ bytes 2 r.first ++ bytes 2 r.last ++ bytes 2 r.next ++
        bytes 1 (match r.state with | .queued => 0 | .taken => 1 | .active => 2) ++
        (if r.state = .taken then bytes 3 (q.takeTimer.getD 0) else zeros 3)) ∧
  (∀ (l : LinkTallies) (d : Oct Nat), (Result.tallies l d).bytes =
    bytes 2 l.headerCorrected ++ bytes 2 l.headerLost ++ bytes 2 l.truncated ++ bytes 2 l.payloadFailed ++
      bytes 2 l.otherChannel ++ bytes 2 l.unknownKind ++ bytes 2 l.dropped ++ bytes 2 l.noticesLost ++
      (List.finRange 8).flatMap fun e => bytes 2 (d.get e)) ∧
  (∀ (w : Bool) (n : Nat) (l : List SlotView), (Result.slots w n l).bytes =
    bytes 1 w.toNat ++ bytes 1 n ++ l.flatMap slot) ∧
  ∀ s : State, s.hasRoom →
    Completes .tallyRead s
      { s with
        capture := { s.capture with tallies := Oct.fill 0 }
        link := { s.link with tallies := ⟨0, 0, 0, 0, 0, 0, 0, 0⟩ }.answered 6 .ok
          (.tallies s.link.tallies s.capture.tallies) } ∧
    Completes .profileRead s (s.answering 1 .ok (.profile s.link.profile)) ∧
    Completes .mapSummary s (s.answering 2 .ok (.summary
      { session := s.map.session, passCounter := s.map.passCounter
        openPass := s.capture.pass.map fun p => (p.number, p.lastSegment), tapeEndSegment := s.map.tapeEndSegment
        counts := s.map.counts, entries := (s.map.segments.map fun e => e.2.entries.length).sum
        stripCount := s.store.stripCount, keptSegments := s.store.keptSegments, keptStrips := s.store.keptStrips
        largestSlip := s.motion.largestSlip, slipCount := s.motion.slipCount, syncFaults := s.motion.syncFaults })) ∧
    Completes .queueRead s (s.answering 3 .ok (.queue
      ⟨s.requests.lastId, s.requests.lastOutcome, s.requests.queue, s.requests.takeTimer⟩)) ∧
    (∀ first count, count = 0 ∨ 16 < count ∨ 4096 < first + count →
      Completes (.mapRead first count) s (s.answering 33 .range .empty)) ∧
    (∀ first count, 1 ≤ count → count ≤ 16 → first + count ≤ 4096 →
      Completes (.mapRead first count) s (s.answering 33 .ok (.records
        ((List.range count).map fun i => (first + i, s.segment (first + i)))))) ∧
    (∀ first count, count = 0 ∨ 32 < first + count →
      Completes (.slotRead first count) s (s.answering 40 .range .empty)) ∧
    ∀ first count, 1 ≤ count → first + count ≤ 32 →
      Completes (.slotRead first count) s (s.answering 40 .ok (.slots s.render.headWaiting
        ((List.range 32).filter fun k => match s.slot k with
          | .ready _ r _ => r.fetched
          | _ => false).length
        ((List.range count).map fun i => match s.slot (first + i) with
          | .free => ⟨first + i, none, none, false, 0⟩
          | .filling h _ => ⟨first + i, some h, none, false, 0⟩
          | .ready h r _ => ⟨first + i, some h, some r, decide (h.changes ≠ (s.segment h.segment).changes),
              s.slots.completion.idxOf (first + i) + 1⟩)))

/-! ## Re-read requests (06) -/

/-- REQUEST_APPEND is refused with the first of RANGE, FULL, DUPLICATE and WORN that applies; otherwise it joins the tail
QUEUED under the first id after the last issued that is not LIVE, and REQUEST_QUEUED is posted if no other request waited. -/
def Obligations.AppendTestsThenQueues : Prop :=
  ∀ (first last : Nat) (s : State), s.requestsSound → s.hasRoom →
    let badRange := last < first ∨ 4096 ≤ last ∨ ∃ e, s.motion.tapeEnd = some e ∧ e ≤ 512 * (last : Int)
    let same := ∃ r ∈ s.requests.queue, r.first = first ∧ r.last = last
    let worn := ∃ g, first ≤ g ∧ g ≤ last ∧ s.link.profile.wearLimit <
      (s.segment g).wear + (s.requests.queue.filter fun r => r.next ≤ g ∧ g ≤ r.last).length + 1
    let c : Instr := .requestAppend first last
    (badRange → Completes c s (s.answering 37 .range .empty)) ∧
    (¬badRange → 16 ≤ s.requests.queue.length → Completes c s (s.answering 37 .full .empty)) ∧
    (¬badRange → s.requests.queue.length < 16 → same → Completes c s (s.answering 37 .duplicate .empty)) ∧
    (¬badRange → s.requests.queue.length < 16 → ¬same → worn → Completes c s (s.answering 37 .worn .empty)) ∧
    (¬badRange → s.requests.queue.length < 16 → ¬same → ¬worn →
      ∃ n ≤ 16, (∀ m < n, s.idState ((s.requests.lastId + m) % 255 + 1) = .live) ∧
        s.idState ((s.requests.lastId + n) % 255 + 1) ≠ .live ∧
        Completes c s
          { s with
            requests := { s.requests with
              queue := s.requests.queue ++ [⟨(s.requests.lastId + n) % 255 + 1, first, last, first, .queued⟩]
              ids := Table.put .neverIssued s.requests.ids ((s.requests.lastId + n) % 255 + 1) .live
              lastId := (s.requests.lastId + n) % 255 + 1 }
            port := if ∃ r ∈ s.requests.queue, r.state = .queued then s.port
                    else s.port.posted (.requestQueued ((s.requests.lastId + n) % 255 + 1))
            link := s.link.answered 37 .ok (.id ((s.requests.lastId + n) % 255 + 1)) })

/-- The take timer's expiry ends a TAKEN request EXPIRED, with its notices to both masters; with no request TAKEN it changes
nothing. REQUEST_CANCEL ends a live request CANCELLED, telling the transport only of one it held, and refuses every other id
by what it names. -/
def Obligations.TimerOrCancelEndsRequest : Prop :=
  (∀ s : State, s.requestsSound →
    ((∀ r ∈ s.requests.queue, r.state ≠ .taken) → exec .takeTimerExpiry s = .next s) ∧
    ∀ r ∈ s.requests.queue, r.state = .taken →
      let facts : RequestFacts := ⟨r.id, r.first, r.last, r.next⟩
      Completes .takeTimerExpiry s
        { s with
          requests := { s.requests with
            queue := s.requests.queue.filter fun x => x.id ≠ r.id, takeTimer := none
            lastOutcome := some ⟨.expired, facts⟩, ids := Table.put .neverIssued s.requests.ids r.id .ended }
          link := s.link.posted (.requestExpired facts), port := s.port.posted (.requestExpired facts) }) ∧
  ∀ (id : Nat) (s : State), s.requestsSound → s.hasRoom →
    (id = 0 ∨ 255 < id → Completes (.requestCancel id) s (s.answering 38 .range .empty)) ∧
    (1 ≤ id → id ≤ 255 → s.idState id = .ended → Completes (.requestCancel id) s (s.answering 38 .tooLate .empty)) ∧
    (1 ≤ id → id ≤ 255 → s.idState id = .neverIssued →
      Completes (.requestCancel id) s (s.answering 38 .unknown .empty)) ∧
    ∀ r ∈ s.requests.queue, r.id = id →
      let facts : RequestFacts := ⟨id, r.first, r.last, r.next⟩
      let queue := s.requests.queue.filter fun x => x.id ≠ id
      let ids := Table.put .neverIssued s.requests.ids id .ended
      let link := (s.link.posted (.requestCancelled facts)).answered 38 .ok .empty
      (r.state = .queued → Completes (.requestCancel id) s
        { s with requests := { s.requests with queue := queue, ids := ids }, link := link }) ∧
      (r.state ≠ .queued → Completes (.requestCancel id) s
        { s with
          requests := { s.requests with
            queue := queue, ids := ids, takeTimer := none, lastOutcome := some ⟨.cancelled, facts⟩ }
          link := link, port := s.port.posted (.requestCancelled facts) })

/-- How a request follows the open pass. The entry of its next segment makes a TAKEN request ACTIVE and stops the take timer;
a COMPLETE entry finalized there moves an ACTIVE request on by one segment, and past its last segment ends it DONE, with its
notices to both masters; the close of the pass makes an ACTIVE request TAKEN again and starts the take timer. Anything else
leaves the queue alone. Where a pass gives the queue these events stand in EnteringPlayOpensPass, BoundaryEndsSpan,
SegmentBoundaryLeavesSegment and MotionAndInputLossClosePass. -/
def Obligations.RequestFollowsPass : Prop :=
  ∀ s : State, s.requestsSound →
    (∀ g, (∀ r ∈ s.requests.queue, r.state = .taken → r.next ≠ g) → s.requestEntered g = s) ∧
    (∀ g complete, (∀ r ∈ s.requests.queue, r.state = .active → r.next = g → complete = false) →
      s.requestFinalized g complete = s) ∧
    ((∀ r ∈ s.requests.queue, r.state ≠ .active) → s.requestPassClosed = s) ∧
    ∀ r ∈ s.requests.queue,
      let become : Request → List Request := fun x => s.requests.queue.map fun y => if y.id = r.id then x else y
      let facts : RequestFacts := ⟨r.id, r.first, r.last, r.last + 1⟩
      (r.state = .taken → s.requestEntered r.next = { s with
        requests := { s.requests with queue := become { r with state := .active }, takeTimer := none } }) ∧
      (r.state = .active → r.next < r.last → s.requestFinalized r.next true = { s with
        requests := { s.requests with queue := become { r with next := r.next + 1 } } }) ∧
      (r.state = .active → r.next = r.last → s.requestFinalized r.next true = { s with
        requests := { s.requests with
          queue := s.requests.queue.filter fun y => y.id ≠ r.id, takeTimer := none
          lastOutcome := some ⟨.done, facts⟩, ids := Table.put .neverIssued s.requests.ids r.id .ended }
        link := s.link.posted (.requestDone facts), port := s.port.posted (.requestDone facts) }) ∧
      (r.state = .active → s.requestPassClosed = { s with
        requests := { s.requests with
          queue := become { r with state := .taken }, takeTimer := some (1000 * s.link.profile.takeTimeout) } })

/-! ## Rendering (07) and rendition slots (08) -/

/-- RENDER in the order of R126: RANGE; a current READY slot answers with its number; a queued job becomes ASKED; NOT_HELD
without material; FULL at 8 jobs; otherwise an ASKED job joins the tail, behind a job in flight or queued, or a take is
attempted at once (RenderTakesChosenSlot). AUTO jobs (R127): none with auto render off; a finalized entry queues the segment
below if the same pass has finished it, a pass close the last segment the pass entered if its entry is listed, side A and
then side B, each by the tests of R126 from the second on, without an answer and with no job made ASKED. The close of a pass
whose last entry is finalized then queues both sides of its segment behind the work in hand. The slot that answers is the
READY slot of the segment and side while no change of the segment has come since its take; while fewer than 4,294,967,296
have, that is while its version at take equals the segment's (R154; that the comparison goes by the whole count of changes is
the model's reading, log 36). -/
def Obligations.RenderAnsweredInOrder : Prop :=
  (∀ (s : State) (g : Nat) (sd : Side) (k : Nat), s.slotsAgree →
    (s.readySlot g sd = some k ↔ ∃ h r d, s.slot k = .ready h r d ∧ h.segment = g ∧ h.side = sd) ∧
    (s.currentSlot g sd = some k ↔
      ∃ h r d, s.slot k = .ready h r d ∧ h.segment = g ∧ h.side = sd ∧ h.changes = (s.segment g).changes) ∧
    ∀ h r d, s.slot k = .ready h r d → h.segment = g → h.side = sd → h.changes ≤ (s.segment g).changes →
      (s.segment g).changes < h.changes + 4294967296 →
      (s.currentSlot g sd = some k ↔ BitVec.ofNat 32 h.changes = BitVec.ofNat 32 (s.segment g).changes)) ∧
  (∀ (g : Nat) (s : State), s.hasRoom →
    (∀ side, 4096 ≤ g ∨ 1 < side → Completes (.render g side) s (s.answering 39 .range .empty)) ∧
    (g < 4096 → ∀ sd : Side,
      let c : Instr := .render g (match sd with | .A => 0 | .B => 1)
      let queued := ∃ j ∈ s.render.queue, j.segment = g ∧ j.side = sd
      let material := ∃ e ∈ (s.segment g).entries, ∃ f, e.fields = some f ∧ f.exclude = false
      let joined : State := { s with
        render := { s.render with queue := s.render.queue ++ [⟨g, sd, true⟩] }
        link := s.link.answered 39 .ok (.slot none) }
      (∀ k, s.currentSlot g sd = some k → Completes c s (s.answering 39 .ok (.slot (some k)))) ∧
      (s.currentSlot g sd = none →
        (queued → Completes c s
          { s with
            render := { s.render with queue := s.render.queue.map fun j =>
              if j.segment = g ∧ j.side = sd then { j with asked := true } else j }
            link := s.link.answered 39 .ok (.slot none) }) ∧
        (¬queued → ¬material → Completes c s (s.answering 39 .notHeld .empty)) ∧
        (¬queued → material → 8 ≤ s.render.queue.length → Completes c s (s.answering 39 .full .empty)) ∧
        (¬queued → material → s.render.queue.length < 8 → s.render.job ≠ none ∨ s.render.queue ≠ [] →
          Completes c s joined) ∧
        (¬queued → material → s.render.job = none → s.render.queue = [] → Completes c s joined.attemptTake)))) ∧
  (∀ (s : State) (g pass : Nat),
    let lists : Nat → Prop := fun g => ∃ e ∈ (s.segment g).entries, e.pass = pass ∧ e.fields ≠ none
    let on := s.link.profile.autoRender = true
    (¬on ∨ ¬lists g → s.autoOnClose pass g = s ∧ s.autoOnFinalized pass (g + 1) = s) ∧
    s.autoOnFinalized pass 0 = s ∧
    (on → lists g → s.autoOnClose pass g = (s.queueAuto g .A).queueAuto g .B ∧
      s.autoOnFinalized pass (g + 1) = (s.queueAuto g .A).queueAuto g .B)) ∧
  (∀ (s : State) (g : Nat) (sd : Side),
    let queued := ∃ j ∈ s.render.queue, j.segment = g ∧ j.side = sd
    let material := ∃ e ∈ (s.segment g).entries, ∃ f, e.fields = some f ∧ f.exclude = false
    let joined : State := { s with render := { s.render with queue := s.render.queue ++ [⟨g, sd, false⟩] } }
    (s.currentSlot g sd ≠ none ∨ queued ∨ ¬material ∨ 8 ≤ s.render.queue.length → s.queueAuto g sd = s) ∧
    (s.currentSlot g sd = none → ¬queued → material → s.render.queue.length < 8 →
      (s.render.job ≠ none ∨ s.render.queue ≠ [] → s.queueAuto g sd = joined) ∧
      (s.render.job = none → s.render.queue = [] → s.queueAuto g sd = joined.attemptTake))) ∧
  ∀ (s : State) (p : OpenPass) (en : Entered) (x : SpanCount) (k : Nat) (r : SpanRecord), s.canonical →
    s.capture.pass = some p → p.entered = some en → en.segment = p.lastSegment → s.capture.span = some x →
    (s.strip en.strip).state ≠ .vacant → (s.strip en.strip).spans[k]? = some r → k ≠ x.index → r.validity = .valid →
    (∃ e ∈ (s.segment en.segment).entries, e.pass = p.number) → s.link.profile.autoRender = true →
    s.render.job ≠ none → s.render.queue.length ≤ 6 → (∀ j ∈ s.render.queue, j.segment ≠ en.segment) →
    (∀ i h d r, s.slot i = .ready h r d → h.segment ≠ en.segment) →
    (∀ g e, g + 1 = en.segment → e ∈ (s.segment g).entries → e.pass ≠ p.number) →
    ∃ u : State, Completes .inputTimerExpiry s u ∧ u.render = { s.render with
      queue := s.render.queue ++ [⟨en.segment, .A, false⟩, ⟨en.segment, .B, false⟩] }

/-- The slot choice is, in order, the lowest FREE slot, the earliest completed of the fetched READY slots, the READY slot of
the same segment and side, none. A take attempt with no job in flight works on the job at the head: without a candidate it
ends NOT_HELD, an ASKED one with a notice, and the attempt goes on with the next; without a slot it waits; else it is taken:
the job in flight holds the segment, the side, its version, the concealment of the profile, the candidate set and the spans
(OutputCountsCarryFraction says what these are), with all its strips to read and nothing generated, and the slot is FILLING.
A READY slot first leaves the completion list and the map, and its fetches in flight end EVICTED. That head waiting is
cleared when the head job ends NOT_HELD is the model's reading (log 17; R128 clears it at a take), and the order in which the
strips are read is part of its division into bursts (log 7). -/
def Obligations.RenderTakesChosenSlot : Prop :=
  (∀ s : State, s.render.job ≠ none ∨ s.render.queue = [] → s.attemptTake = s) ∧
  (∀ (s : State) (j : QueuedJob) (rest : List QueuedJob), s.render.job = none → s.render.queue = j :: rest →
    s.candidateSet j.segment = [] → s.attemptTake = State.attemptTake { s with
      render := ⟨rest, false, none⟩
      link := if j.asked then s.link.posted (.renderAborted j.segment j.side .notHeld) else s.link }) ∧
  ∀ (q : QueuedJob) (rest : List QueuedJob) (s : State), s.canonical → s.slotsAgree →
    let g := q.segment
    let sd := q.side
    let fetched : Nat → Prop := fun k => ∃ h r d, s.slot k = .ready h r d ∧ r.fetched = true
    let holds : Nat → Prop := fun k => ∃ h r d, s.slot k = .ready h r d ∧ h.segment = g ∧ h.side = sd
    (∀ k < 32, s.slot k = .free → (∀ i < k, s.slot i ≠ .free) → s.chooseSlot g sd = some k) ∧
    ((∀ k < 32, s.slot k ≠ .free) →
      (∀ before k after, s.slots.completion = before ++ k :: after → fetched k → (∀ i ∈ before, ¬fetched i) →
        s.chooseSlot g sd = some k) ∧
      ((∀ k, ¬fetched k) →
        (∀ k, holds k → s.chooseSlot g sd = some k) ∧ ((∀ k, ¬holds k) → s.chooseSlot g sd = none))) ∧
    (s.render.queue = q :: rest → s.render.job = none → s.candidateSet g ≠ [] →
      (s.chooseSlot g sd = none → s.attemptTake = { s with render := ⟨q :: rest, true, none⟩ }) ∧
      ∀ k, s.chooseSlot g sd = some k →
        ∃ (u : State) (j : Job) (lead : JobEntry) (more : List JobEntry), s.attemptTake = u ∧
          u.render = ⟨rest, false, some j⟩ ∧ rankEntries sd (s.candidateSet g) = lead :: more ∧
          j = { segment := g, side := sd, asked := q.asked, slot := k, changes := (s.segment g).changes
                concealment := s.link.profile.concealment, entries := s.candidateSet g, lead := lead.pass
                spans := s.allSpans (rankEntries sd (s.candidateSet g)) sd, left := ⟨none, 0⟩, right := ⟨none, 0⟩
                alignEdge := 0
                toRead := (s.candidateSet g).flatMap fun e => e.strip :: (e.lower.toList ++ e.upper.toList)
                blocksRead := 0, nextSpan := 0, generated := [], bursting := false } ∧
          j.spans.length = 16 ∧ u.slot k = .filling j.head [] ∧ (∀ i, i ≠ k → u.slot i = s.slot i) ∧
          u.slots.completion = s.slots.completion.filter (fun i => i ≠ k) ∧
          (s.slot k = .free → u.map = s.map ∧ u.link = s.link) ∧
          (∀ h r d, s.slot k = .ready h r d →
            u.segment h.segment = { s.segment h.segment with
              rendition := (s.segment h.segment).rendition.set h.side
                ⟨none, ((s.segment h.segment).rendition.get h.side).unrecovered⟩ }.restated ∧
            (∀ i, i ≠ h.segment → u.segment i = s.segment i) ∧
            u.link = s.link.fetchesEvicted k) ∧
          u = { s with
            render := u.render, slots := u.slots, link := u.link
            map := { s.map with segments := u.map.segments, counts := u.map.counts } })

/-- RENDER_BURST_COMPLETE without a burst of the Render Engine in progress changes nothing (the model's choice, log 11; the
division into bursts is log 7, and that the engine takes part in the grant at its own completion is log 23). A read burst
with bursts of the same strip still to come is counted, the last one of a strip turns to the next strip, and that of the last
strip goes on to the spans. A write burst adds the pairs generated to the slot in slot sample order, reversed for side B, at
most 341; with pairs left it goes on with them, with none it goes on to the spans. Going on to the spans generates the next
one that has output, both its tracks, the side's left programme as track 0 and its right as track 1: T0 and T1 for side A, T3
and T2 for side B (R144). The last write burst of a job whose spans are all generated completes it: a READY slot of the same
segment and side is freed first, its fetches ended EVICTED; the job's slot is READY at the tail of the completion list with
its record, the segment's rendition fields name it, RENDER_READY is posted, no job is in flight, and a take is attempted. It
is posted stale when the segment has changed since the take, by the whole count of changes (the model's reading, log 36). -/
def Obligations.RenderBurstsEndInReadySlot : Prop :=
  (∀ s : State, s.store.burst ≠ some .render → Completes .renderBurstComplete s s) ∧
  (∀ (s : State) (j : Job) (i : Nat) (rest : List Nat), s.store.burst = some .render → s.render.job = some j →
    j.bursting = true → j.toRead = i :: rest → j.blocksRead + 1 < s.readBursts i →
    Completes .renderBurstComplete s
      { s with
        store := { s.store with burst := none }
        render := { s.render with job := some { j with blocksRead := j.blocksRead + 1, bursting := false } } }) ∧
  (∀ (s : State) (j : Job) (i : Nat) (rest : List Nat), s.store.burst = some .render → s.render.job = some j →
    j.bursting = true → j.toRead = i :: rest → s.readBursts i ≤ j.blocksRead + 1 →
    let idle : State := { s with store := { s.store with burst := none } }
    let read : Job := { j with toRead := rest, blocksRead := 0, bursting := false }
    (rest ≠ [] → Completes .renderBurstComplete s { idle with render := { s.render with job := some read } }) ∧
    (rest = [] → Completes .renderBurstComplete s (advanceJob 17 idle read))) ∧
  (∀ (s : State) (j : Job) (data : List (Int × Int)) (h : SlotHead), s.canonical → s.store.burst = some .render →
    s.render.job = some j → j.bursting = true → j.toRead = [] → s.slot j.slot = .filling h data →
    let wrote : Job := { j with generated := j.generated.drop 341, bursting := false }
    ∃ u : State, u.slot j.slot = .filling h (match j.side with
        | .A => data ++ j.generated.take 341
        | .B => (j.generated.take 341).reverse ++ data) ∧
      (∀ k, k ≠ j.slot → u.slot k = s.slot k) ∧ u.slots.completion = s.slots.completion ∧
      u = { s with store := { s.store with burst := none }, slots := u.slots } ∧
      (341 < j.generated.length →
        Completes .renderBurstComplete s { u with render := { s.render with job := some wrote } }) ∧
      (j.generated.length ≤ 341 → Completes .renderBurstComplete s (advanceJob 17 u wrote))) ∧
  (∀ (s : State) (j : Job) (n : Nat),
    let next := s.generateSpan j
    (j.nextSpan < j.spans.length → next.generated ≠ [] →
      advanceJob (n + 1) s j = { s with render := { s.render with job := some next } }) ∧
    (j.nextSpan < j.spans.length → next.generated = [] → advanceJob (n + 1) s j = advanceJob n s next) ∧
    (j.spans.length ≤ j.nextSpan → advanceJob n s j = s.completeJob j) ∧
    ∀ x, j.spans[j.nextSpan]? = some x →
      let track : Fin 4 → JobTrack → List Int × JobTrack := fun t keep =>
        s.cells j.concealment (s.candidatesOf j.entries x.provider x.count j.nextSpan t) x.count ((x.count + 31) / 32) 0 keep
      let edges : Fin 4 → Nat := fun t => (s.candidatesOf j.entries x.provider x.count j.nextSpan t).alignEdge
      let tracks : Fin 4 × Fin 4 := match j.side with | .A => (0, 1) | .B => (3, 2)
      next = { j with
        left := (track tracks.1 j.left).2, right := (track tracks.2 j.right).2
        alignEdge := min (j.alignEdge + edges tracks.1 + edges tracks.2) 65535
        generated := (track tracks.1 j.left).1.zip (track tracks.2 j.right).1, nextSpan := j.nextSpan + 1 }) ∧
  ∀ (s : State) (j : Job) (data : List (Int × Int)) (h : SlotHead), s.canonical → s.store.burst = some .render →
    s.render.job = some j → j.bursting = true → j.toRead = [] → j.generated.length ≤ 341 →
    j.spans.length ≤ j.nextSpan → s.slot j.slot = .filling h data →
    let earlier := s.readySlot j.segment j.side
    let result : SlotReady := ⟨j.left.unrecovered, j.right.unrecovered, j.alignEdge, false⟩
    let all := match j.side with | .A => data ++ j.generated | .B => j.generated.reverse ++ data
    ∃ u : State, Completes .renderBurstComplete s u.attemptTake ∧ u.slot j.slot = .ready j.head result all ∧
      (∀ k, k ≠ j.slot → u.slot k = if earlier = some k then .free else s.slot k) ∧
      u.slots.completion = (match earlier with
        | some k => s.slots.completion.filter fun i => i ≠ k
        | none => s.slots.completion) ++ [j.slot] ∧
      u.segment j.segment = { s.segment j.segment with
        rendition := (s.segment j.segment).rendition.set j.side
          ⟨some j.slot, some (min (j.left.unrecovered + j.right.unrecovered) 65535)⟩ }.restated ∧
      (∀ g, g ≠ j.segment → u.segment g = s.segment g) ∧
      u = { s with
        store := { s.store with burst := none }, slots := u.slots
        map := { s.map with segments := u.map.segments, counts := u.map.counts }
        render := { s.render with job := none }
        link := (match earlier with | some k => s.link.fetchesEvicted k | none => s.link).posted
          (.renderReady j.slot j.head (decide (j.changes ≠ (s.segment j.segment).changes)) result) }

/-- The loss of a strip, by eviction or vacating: a job in flight that reads it, as a strip of its candidate set or an edge
strip, is aborted. Its slot is FREE, an ASKED job is reported EVICTED, no job is in flight, and a take is attempted on what
is queued. A job that does not read the strip goes on. -/
def Obligations.LostStripAbortsJob : Prop :=
  ∀ (s : State) (i : Nat), s.canonical →
    let reads : Job → Prop := fun j => ∃ e ∈ j.entries, e.strip = i ∨ e.lower = some i ∨ e.upper = some i
    ((∀ j, s.render.job = some j → ¬reads j) → s.jobStripLost i = s) ∧
    ∀ j, s.render.job = some j → reads j →
      ∃ u : State, u.slot j.slot = .free ∧ (∀ k, k ≠ j.slot → u.slot k = s.slot k) ∧
        u.slots.completion = s.slots.completion ∧
        u = { s with
          slots := u.slots, render := { s.render with job := none }
          link := if j.asked then s.link.posted (.renderAborted j.segment j.side .evicted) else s.link } ∧
        s.jobStripLost i = u.attemptTake ∧ (s.render.queue = [] → s.jobStripLost i = u)

/-- A job's inputs and spans. The candidate set is the segment's finalized entries with exclude no, in list order; the lower
edge strip is the neighbour below where it is HELD with its own overrun clear, the upper one the neighbour above where it is
HELD and the entry's own strip has overrun clear, a neighbour being the strip the field names while it is the same pass's
strip of the segment next to it (R68). For a side the set stands in reference order: more locked spans first, then the lower
pass. The provider of a span is the first in that order whose span is VALID; it gives the applied length and, of span 0, the
fraction at start; an absent span has the lead entry's T_tach, and a start of 0. The output counts carry the accumulator on
without loss: each is the whole samples by which the running sum of applied lengths grows, and a span's first sample is the
sum of the counts before it. -/
def Obligations.OutputCountsCarryFraction : Prop :=
  (∀ (s : State) (g : Nat),
    (s.candidateSet g).map (fun e => (e.pass, e.strip, e.fields)) = (s.segment g).entries.filterMap (fun e =>
      match e.fields with
      | some f => if f.exclude then none else some (e.pass, e.strip, f)
      | none => none) ∧
    ∀ e ∈ s.candidateSet g,
      let overrun : Nat → Prop := fun i => ∃ d, (s.strip i).descriptor = some d ∧ d.overrun = true
      let names : (Descriptor → Option Nat) → Nat → Prop := fun link n =>
        ∃ d, (s.strip e.strip).descriptor = some d ∧ link d = some n
      let owned : (Nat → Nat → Prop) → Nat → Prop := fun next n => ∃ o h pass, (s.strip e.strip).owner = some (o, pass) ∧
        (s.strip n).owner = some (h, pass) ∧ next o h
      (∀ n, e.lower = some n ↔ names (·.previous) n ∧ owned (fun o h => h + 1 = o) n ∧ (s.strip n).state = .held ∧
        ¬overrun n) ∧
      ∀ n, e.upper = some n ↔ names (·.next) n ∧ owned (fun o h => h = o + 1) n ∧ (s.strip n).state = .held ∧
        ¬overrun e.strip) ∧
  (∀ (sd : Side) (set : List JobEntry), List.Perm (rankEntries sd set) set ∧
    (rankEntries sd set).Pairwise fun a b => b.fields.locked.get sd < a.fields.locked.get sd ∨
      (a.fields.locked.get sd = b.fields.locked.get sd ∧ a.pass ≤ b.pass)) ∧
  (∀ (ranked : List JobEntry) (k : Nat),
    let valid : JobEntry → Prop := fun e => e.fields.validity[k]? = some .valid
    (providerOf ranked k = none ↔ ∀ e ∈ ranked, ¬valid e) ∧
    ∀ p, providerOf ranked k = some p ↔
      ∃ before after, ranked = before ++ p :: after ∧ valid p ∧ ∀ e ∈ before, ¬valid e) ∧
  (∀ (s : State) (ranked : List JobEntry) (sd : Side) (k : Nat),
    (∀ p r x, providerOf ranked k = some p → (s.strip p.strip).spans[k]? = some r → r.timebase = some x →
      s.appliedLength ranked sd k = (x.get sd).applied ∧ (k = 0 → s.startFraction ranked sd = (x.get sd).fraction)) ∧
    (∀ lead rest d, providerOf ranked k = none → ranked = lead :: rest → (s.strip lead.strip).descriptor = some d →
      s.appliedLength ranked sd k = d.tTach) ∧
    (providerOf ranked 0 = none → s.startFraction ranked sd = 0) ∧
    s.allSpans ranked sd = s.jobSpans ranked sd 16 0 (s.startFraction ranked sd) 0) ∧
  ∀ (s : State) (ranked : List JobEntry) (sd : Side) (n k first : Nat) (acc : Int), 0 ≤ acc → acc < 65536 →
    (∀ i, k ≤ i → i < k + n → 0 ≤ s.appliedLength ranked sd i) →
    let l := s.jobSpans ranked sd n k acc first
    let upTo : Nat → Int := fun i => acc + ((l.take i).map (·.applied)).sum
    l.length = n ∧
      ((l.map (·.count)).sum : Int) = (acc + (l.map (·.applied)).sum) / 65536 ∧
      ∀ i x, l[i]? = some x → x.provider = (providerOf ranked (k + i)).map (·.pass) ∧
        x.applied = s.appliedLength ranked sd (k + i) ∧
        (x.count : Int) = upTo (i + 1) / 65536 - upTo i / 65536 ∧
        x.first = first + ((l.take i).map (·.count)).sum

/-- How a candidate is read and aligned. A frame is read from the strip, from an edge strip past its ends, or repeats an end.
A sample is that of the element in the stored frame; elements 2t and 2t + 1 are the outer and the inner one of track t. A
value lies between the two samples about its position and is the interpolation of R134. The alignment takes the lag with
the smallest sum, of equals the smaller and then the negative, over the coarse lags and then the fine ones, is ALIGN_EDGE at
an end of the coarse range, and refines a fine lag inside its range by the parabola of R138. Every pairing of an entry with
the span VALID and an enabled element is a candidate but for those found ALIGN_EDGE, which are counted; the reference is the
provider's enabled element of the track of the higher quality, of equals the lower, at offset 0. -/
def Obligations.CandidatesReadAndAligned : Prop :=
  (∀ (s : State) (i j : Nat) (f : StoredFrame) (e : Fin 8), (s.strip i).frames[j]? = some f →
    s.sampleAt ⟨i, j⟩ e = f.samples.get e) ∧
  ((∀ e : Fin 8, (trackOf e).val = e.val / 2) ∧ ∀ t : Fin 4, (outerOf t).val = 2 * t.val ∧ (innerOf t).val = 2 * t.val + 1) ∧
  (∀ (s : State) (e : JobEntry) (j : Int),
    let size : Nat → Int := fun i => (s.strip i).frames.length
    let stored := size e.strip
    (0 ≤ j → j < stored → s.place e j = ⟨e.strip, j.toNat⟩) ∧
    (j < 0 → e.lower = none → s.place e j = ⟨e.strip, 0⟩) ∧
    (∀ l, j < 0 → e.lower = some l → s.place e j = ⟨l, (max (size l + j) 0).toNat⟩) ∧
    (0 < stored → stored ≤ j → e.upper = none → s.place e j = ⟨e.strip, (stored - 1).toNat⟩) ∧
    (∀ k, stored ≤ j → e.upper = some k → 0 < size k →
      s.place e j = ⟨k, (min (j - stored) (size k - 1)).toNat⟩)) ∧
  (∀ (s : State) (v : Voice) (m : Int),
    let q := ((256 * m + v.offset) * v.frames * 256) / v.count
    let x := s.sampleAt (s.place v.entry (v.first + q / 65536)) v.element
    let y := s.sampleAt (s.place v.entry (v.first + q / 65536 + 1)) v.element
    0 < v.count → x ≤ 8388607 → -8388608 ≤ x → y ≤ 8388607 → -8388608 ≤ y →
    s.voiceValue v m = x + ((y - x) * (q % 65536) + 32768) / 65536 ∧
      min x y ≤ s.voiceValue v m ∧ s.voiceValue v m ≤ max x y) ∧
  (∀ (s : State) (r c : Voice),
    let n := r.count
    let sum : Int → List Nat → Nat := fun off ms =>
      (ms.map fun (m : Nat) => (s.voiceValue r m - s.voiceValue { c with offset := off } m).natAbs).sum
    let coarse : Int → Nat := fun j => sum (4096 * j) ((List.range n).filter fun m => m % 16 = 0)
    let fine : Int → Nat := fun l => sum (256 * l) (List.range n)
    let best : (Int → Nat) → Int → Int → Int → Prop := fun f lo hi l => lo ≤ l ∧ l ≤ hi ∧ ∀ k, lo ≤ k → k ≤ hi →
      f l < f k ∨ (f l = f k ∧ (l.natAbs < k.natAbs ∨ (l.natAbs = k.natAbs ∧ l ≤ k)))
    ∃ j, best coarse (-256) 256 j ∧ (j = -256 ∨ j = 256 → s.align r c = none) ∧
      (-256 < j → j < 256 → ∃ l, best fine (16 * j - 16) (16 * j + 16) l ∧
        (l = 16 * j - 16 ∨ l = 16 * j + 16 → s.align r c = some (256 * l)) ∧
        (16 * j - 16 < l → l < 16 * j + 16 →
          let den : Int := (fine (l - 1) : Int) - 2 * fine l + fine (l + 1)
          let top : Int := 128 * ((fine (l - 1) : Int) - fine (l + 1))
          ∃ frac nearest : Int, s.align r c = some (256 * l + frac) ∧ (den ≤ 0 → frac = 0) ∧
            (0 < den → frac = max (-128) (min 127 nearest) ∧ 2 * (nearest * den - top).natAbs ≤ den.natAbs ∧
              (2 * (nearest * den - top).natAbs = den.natAbs → top.natAbs ≤ (nearest * den).natAbs))))) ∧
  (∀ (s : State) (count k : Nat) (e : JobEntry) (el : Fin 8) (v : Voice), s.voiceOf count k e el = some v ↔
    e.fields.validity[k]? = some .valid ∧ (∃ d, (s.strip e.strip).descriptor = some d ∧ d.capture.enables.get el = true) ∧
      ∃ r, (s.strip e.strip).spans[k]? = some r ∧
        v = { entry := e, element := el, quality := r.quality.get el, offset := 0, first := r.first, frames := r.frames
              count := count }) ∧
  (∀ (s : State) (entries : List JobEntry) (pass count k : Nat) (t : Fin 4) (provider : JobEntry) (before : List JobEntry)
      (after : List JobEntry), entries = before ++ provider :: after → provider.pass = pass →
    (∀ e ∈ before, e.pass ≠ pass) →
    let c := s.candidatesOf entries (some pass) count k t
    let own : Fin 8 → Option Voice := fun el => if trackOf el = t then s.voiceOf count k provider el else none
    ((∀ el, own el = none) → c = ⟨none, [], 0⟩) ∧
    ∀ el v, own el = some v →
      (∀ fl w, own fl = some w → w.quality < v.quality ∨ (w.quality = v.quality ∧ el.val ≤ fl.val)) →
      c.reference = some v) ∧
  ∀ (s : State) (entries : List JobEntry) (pass count k : Nat) (t : Fin 4) (r : Voice),
    let c := s.candidatesOf entries (some pass) count k t
    let pairings := entries.flatMap fun e =>
      (s.voiceOf count k e (outerOf t)).toList ++ (s.voiceOf count k e (innerOf t)).toList
    let edge : Voice → Bool := fun v => decide (v.quality ≠ 0) && (s.align r v).isNone
    let rest := pairings.filter fun v => !v.sameCandidate r
    c.reference = some r →
      r.offset = 0 ∧ r.entry.pass = pass ∧ trackOf r.element = t ∧ c.alignEdge = (rest.filter edge).length ∧
      c.others.map (fun v => { v with offset := 0 }) = (rest.filter fun v => !edge v) ∧
      ∀ v ∈ c.others, v.offset = if v.quality = 0 then 0 else (s.align r { v with offset := 0 }).getD 0

/-- The choice of each cell of 32 output samples, its concealment and its crossfade. The source is the candidate first in
R141's order of those not dropped; with every one dropped the cell is unrecovered, and its source is the reference under
HOLD_BEST and mute else. A candidate is dropped in a cell where its quality is 0 or the dropout map of a strip it is read
from has its element dropped in a capture cell that holds one of the frames read, from that at the position of the cell's
first output sample to that at its last (R133). Two sources are the same at one pass, element and offset, or both mute; mute
gives 0. The cells fill the span's output count; a sample is the source's value, but for the first eight of a
cell whose source differs from the one before, which are crossfaded; the unrecovered cells are counted, up to 65,535. -/
def Obligations.CellsChosenConcealedFaded : Prop :=
  (∀ (s : State) (i j : Nat) (flags : Byte) (e : Fin 8), (s.strip i).dropout[j / 64]? = some flags →
    s.droppedAt ⟨i, j⟩ e = flags.getLsbD e.val) ∧
  (∀ (s : State) (a b : Voice) (m : Int),
    (a.sameCandidate b = true ↔ a.entry.pass = b.entry.pass ∧ a.element = b.element) ∧
    ((CellSource.voice a).same (.voice b) = true ↔
      a.entry.pass = b.entry.pass ∧ a.element = b.element ∧ a.offset = b.offset) ∧
    CellSource.mute.same .mute = true ∧ (CellSource.voice a).same .mute = false ∧ CellSource.mute.same (.voice b) = false ∧
    s.sourceValue (.voice a) m = s.voiceValue a m ∧ s.sourceValue .mute m = 0) ∧
  (∀ (s : State) (c : Candidates) (lo hi : Nat),
    let dropped : Voice → Prop := fun v => s.voiceDropped v lo hi = true
    (s.chooseVoice c lo hi = none ↔ (∀ r, c.reference = some r → dropped r) ∧ ∀ v ∈ c.others, dropped v) ∧
    ∀ v, s.chooseVoice c lo hi = some v →
      ¬dropped v ∧ (c.reference = some v ∨ v ∈ c.others) ∧
      (∀ r, c.reference = some r → ¬dropped r → r.quality < v.quality ∨ v = r) ∧
      ∀ w ∈ c.others, ¬dropped w → w.quality < v.quality ∨ (w.quality = v.quality ∧
        (c.reference = some v ∨ v.entry.pass < w.entry.pass ∨
          (v.entry.pass = w.entry.pass ∧ v.element.val ≤ w.element.val)))) ∧
  (∀ (s : State) (v : Voice) (lo hi : Nat),
    let q : Nat → Int := fun m => ((256 * m + v.offset) * v.frames * 256) / v.count
    q lo / 65536 ≤ q hi / 65536 →
    (s.voiceDropped v lo hi = true ↔ v.quality = 0 ∨ ∃ i : Int, q lo / 65536 ≤ i ∧ i ≤ q hi / 65536 ∧
      s.droppedAt (s.place v.entry (v.first + i)) v.element = true)) ∧
  (∀ (s : State) (con : Concealment) (c : Candidates) (lo hi : Nat),
    (∀ v, s.chooseVoice c lo hi = some v → s.cellSource con c lo hi = (.voice v, false)) ∧
    (s.chooseVoice c lo hi = none → s.cellSource con c lo hi =
      (match con, c.reference with
        | .holdBest, some r => .voice r
        | _, _ => .mute, true))) ∧
  ∀ (s : State) (con : Concealment) (cand : Candidates) (n left : Nat) (t : JobTrack), n ≤ 32 * left →
    t.unrecovered ≤ 65535 →
    let hi : Nat → Nat := fun c => min (32 * c + 31) (n - 1)
    let source : Nat → CellSource := fun c => (s.cellSource con cand (32 * c) (hi c)).1
    let before : Nat → Option CellSource := fun c => if c = 0 then t.lastSource else some (source (c - 1))
    let r := s.cells con cand n left 0 t
    r.1.length = n ∧
      r.2.unrecovered = min (t.unrecovered +
        ((List.range ((n + 31) / 32)).filter fun c => s.chooseVoice cand (32 * c) (hi c) = none).length) 65535 ∧
      (0 < n → r.2.lastSource = some (source ((n - 1) / 32))) ∧
      ∀ c i : Nat, i < 32 → 32 * c + i < n →
        let b := s.sourceValue (source c) ((32 * c + i : Nat) : Int)
        r.1[32 * c + i]? = some (match before c with
          | none => b
          | some p =>
            let a := s.sourceValue p (match c, p with
              | 0, .voice v => ((v.count + i : Nat) : Int)
              | _, _ => ((32 * c + i : Nat) : Int))
            if p.same (source c) = true ∨ 8 ≤ i then b else (a * (7 - (i : Int)) + b * ((i : Int) + 1) + 4) / 8)

/-- SLOT_RELEASE by the slot's state; a READY slot becomes FREE, leaves the completion list, its number leaves the map while
the unrecovered cells stay, its fetches in flight end EVICTED, and a take is attempted while the head waits. -/
def Obligations.SlotReleaseFreesReadySlot : Prop :=
  ∀ (k : Nat) (s : State), s.canonical → s.hasRoom →
    let c : Instr := .slotRelease k
    (31 < k → Completes c s (s.answering 5 .range .empty)) ∧
    (k ≤ 31 → s.slot k = .free → Completes c s (s.answering 5 .notHeld .empty)) ∧
    (∀ h d, k ≤ 31 → s.slot k = .filling h d → Completes c s (s.answering 5 .busy .empty)) ∧
    ∀ h r d, k ≤ 31 → s.slot k = .ready h r d →
      ∃ u : State, Completes c s (if s.render.headWaiting then u.attemptTake else u) ∧ u.slot k = .free ∧
        (∀ i, i ≠ k → u.slot i = s.slot i) ∧
        u.slots.completion = s.slots.completion.filter (fun i => i ≠ k) ∧
        u.segment h.segment = { s.segment h.segment with
          rendition := if ((s.segment h.segment).rendition.get h.side).slot = some k then
              (s.segment h.segment).rendition.set h.side
                ⟨none, ((s.segment h.segment).rendition.get h.side).unrecovered⟩
            else (s.segment h.segment).rendition }.restated ∧
        (∀ g, g ≠ h.segment → u.segment g = s.segment g) ∧
        u = { s with
          slots := u.slots, map := { s.map with segments := u.map.segments, counts := u.map.counts }
          link := { s.link with commands := s.link.commands.map fun (x : PendingCommand) => match x.answer with
            | .reading ⟨.rendition i _ _, _, _, _⟩ =>
              if i = k then ⟨x.kind, .formed ⟨x.kind, .evicted, .empty⟩ none⟩ else x
            | _ => x }.answered 5 .ok .empty }

/-- STRIP_READ, FETCH_RAW and FETCH_RENDITION are refused with the first test that fails, and otherwise are in flight, with
nothing else changed. A link read burst: with more to come the data joins the read's; the last one forms the OK response with
the data, and a fetch that reached the sample count marks its slot fetched, whereupon a take is attempted while the head
waits, and finds that slot. What a burst's data is stands in ReadsReturnStoredData. That nothing changes without a link burst
in progress is the model's choice (log 11), as are the division into bursts (log 7) and that the link takes part in the grant
at its own burst's completion (log 23). -/
def Obligations.FetchesTestedThenRead : Prop :=
  (∀ s : State, s.hasRoom →
    (∀ i, (s.store.stripCount ≤ i → Completes (.stripRead i) s (s.answering 4 .range .empty)) ∧
      (i < s.store.stripCount → (s.strip i).state = .vacant → Completes (.stripRead i) s (s.answering 4 .notHeld .empty)) ∧
      (i < s.store.stripCount → (s.strip i).state ≠ .vacant →
        Completes (.stripRead i) s { s with link := s.link.reading 4 (.strip i) })) ∧
    (∀ i e f n, let c : Instr := .fetchRaw i e f n
      let bad := s.store.stripCount ≤ i ∨ 7 < e ∨ n = 0 ∨ 21845 < n
      (bad → Completes c s (s.answering 42 .range .empty)) ∧
      (¬bad → (s.strip i).state = .vacant → Completes c s (s.answering 42 .notHeld .empty)) ∧
      (¬bad → (s.strip i).state ≠ .vacant → (s.strip i).frames.length < f + n →
        Completes c s (s.answering 42 .range .empty)) ∧
      (¬bad → (s.strip i).state ≠ .vacant → f + n ≤ (s.strip i).frames.length →
        Completes c s { s with link := s.link.reading 42 (.raw i e f n) })) ∧
    ∀ k f n, let c : Instr := .fetchRendition k f n
      let bad := 31 < k ∨ n = 0 ∨ 10922 < n
      (bad → Completes c s (s.answering 41 .range .empty)) ∧
      (¬bad → (∀ h r d, s.slot k ≠ .ready h r d) → Completes c s (s.answering 41 .notHeld .empty)) ∧
      ∀ h r d, ¬bad → s.slot k = .ready h r d →
        (h.sampleCount < f + n → Completes c s (s.answering 41 .range .empty)) ∧
        (f + n ≤ h.sampleCount → Completes c s { s with link := s.link.reading 41 (.rendition k f n) })) ∧
  (∀ s : State, s.store.burst ≠ some .link → Completes .linkReadBurstComplete s s) ∧
  ∀ (s : State) (before after : List PendingCommand) (kind n : Nat) (t : ReadTarget) (data bs : List Byte),
    s.canonical → s.store.burst = some .link → (∀ c ∈ before, ∃ r d, c.answer = .formed r d) →
    s.link.commands = before ++ ⟨kind, .reading ⟨t, n, data, some bs⟩⟩ :: after →
    let idle : Store := { s.store with burst := none }
    (n + 1 < t.bursts → Completes .linkReadBurstComplete s
      { s with
        store := idle
        link := { s.link with commands := before ++ ⟨kind, .reading ⟨t, n + 1, data ++ bs, none⟩⟩ :: after } }) ∧
    (t.bursts ≤ n + 1 →
      let result : Result := match t with
        | .strip i => .strip i
        | .raw i e f c => .raw i e f c
        | .rendition k f c => .rendition k f c
      let link : Link := { s.link with
        commands := before ++ ⟨kind, .formed ⟨kind, .ok, result⟩ (some (data ++ bs))⟩ :: after }
      ((∀ k f c h r d, t = .rendition k f c → s.slot k = .ready h r d → f + c ≠ h.sampleCount) →
        Completes .linkReadBurstComplete s { s with store := idle, link := link }) ∧
      ∀ k f c h r d, t = .rendition k f c → s.slot k = .ready h r d → f + c = h.sampleCount →
        ∃ u : State, Completes .linkReadBurstComplete s (if s.render.headWaiting then u.attemptTake else u) ∧
          u.slot k = .ready h { r with fetched := true } d ∧
          (∀ i, i ≠ k → u.slot i = s.slot i) ∧ u.slots.completion = s.slots.completion ∧
          u = { s with store := idle, link := link, slots := u.slots } ∧
          ∀ q rest, s.slotsSound → s.render.headWaiting = true → s.render.queue = q :: rest →
            u.chooseSlot q.segment q.side = some k)

/-- What the link's reads return, by R191, R192, R204 and R205. A burst granted to the link takes the data of the oldest read
in flight as it then stands. The bursts of a read together are: for STRIP_READ the descriptor, the sixteen span records and
the dropout map of 4,096 cells, those not yet judged shown as not dropped, the span in progress of the open strip with its
running counts, OVERRUN or CUT, and qualities of 0; for FETCH_RAW the samples of the element, frame by frame, three bytes
each; for FETCH_RENDITION the pairs in slot order, track 0 first, three bytes each. Multi-byte fields go least significant
byte first. The division into bursts is the model's (log 7), as are the means of a span that is running (log 21) and which
half of a byte an element's quality takes (log 43). -/
def Obligations.ReadsReturnStoredData : Prop :=
  let bytes : Nat → Nat → List Byte := fun w n => (List.range w).map fun k => BitVec.ofNat 8 (n / 256 ^ k)
  let signed : Nat → Int → List Byte := fun w x => bytes w (x % 256 ^ w).toNat
  let absent : Nat → Option Nat → List Byte := fun w o => bytes w (o.getD (256 ^ w - 1))
  let whole : State → ReadTarget → List Byte := fun s t => (List.range t.bursts).flatMap (s.burstData t)
  (∀ (s : State) (before after : List PendingCommand) (kind n : Nat) (t : ReadTarget) (data : List Byte),
    s.store.burst = none → s.writerRequest = none → (s.renderWants = false ∨ s.store.lastReader = .render) →
    (∀ c ∈ before, ∃ r d, c.answer = .formed r d) →
    s.link.commands = before ++ ⟨kind, .reading ⟨t, n, data, none⟩⟩ :: after →
    (∀ i e f c, t = .strip i ∨ t = .raw i e f c → (s.strip i).state = .opened ∨
      ((s.strip i).state = .held ∧ ∃ d, (s.strip i).descriptor = some d ∧ d.ended = true)) →
    s.grant = { s with
      store := { s.store with burst := some .link, lastReader := .link }
      link := { s.link with
        commands := before ++ ⟨kind, .reading ⟨t, n, data, some (s.burstData t n)⟩⟩ :: after } }) ∧
  (∀ (s : State) (i : Nat) (d : Descriptor) (g pass : Nat), (s.strip i).descriptor = some d →
    (s.strip i).owner = some (g, pass) → (s.strip i).dropout.length ≤ 4096 →
    let code : Validity → Nat
      | .valid => 0 | .overrun => 1 | .cut => 2 | .part => 3 | .empty => 4 | .unreached => 5
    let source : Source → Nat
      | .tach => 0 | .resLeft => 1 | .resRight => 2
    let enables := (List.finRange 8).map fun e => if d.capture.enables.get e then 2 ^ e.val else 0
    let descriptor := bytes 2 i ++ bytes 2 g ++ bytes 2 pass ++ bytes 4 d.timebase.speed ++ bytes 4 d.tTach ++
      bytes 4 d.timebase.bias ++ bytes 1 d.timebase.window ++ bytes 3 d.timebase.slewUp ++ bytes 3 d.timebase.slewDown ++
      bytes 1 (d.timebase.jump.toNat + 2 * d.overrun.toNat + 4 * d.ended.toNat) ++
      bytes 1 (source d.timebase.source.a + 4 * source d.timebase.source.b) ++ bytes 1 enables.sum ++
      bytes 1 d.capture.dropThreshold ++ bytes 3 d.capture.initialLevel ++ bytes 3 d.capture.levelFloor ++
      bytes 3 (s.strip i).frames.length ++ absent 2 d.previous ++ absent 2 d.next
    let side : Option SpanTimebase → List Byte
      | none => List.replicate 7 255#8
      | some t => signed 4 t.applied ++
          bytes 1 ((match t.lock with | .unlocked => 0 | .locked => 1 | .tach => 2) +
            4 * (match t.accepted with | some true => 0 | some false => 1 | none => 3)) ++ bytes 2 t.fraction
    let record : SpanRecord → List Byte := fun r =>
      bytes 1 (code r.validity + 128 * r.backtrack.toNat) ++ bytes 3 r.first ++ bytes 3 r.frames ++
      (List.finRange 4).flatMap (fun t => absent 2 (r.residue.map fun c => (c.get t).toNat)) ++
      (List.finRange 8).flatMap (fun e => bytes 3 (r.means.get e) ++ bytes 3 (r.overload.get e) ++ bytes 2 (r.dropped.get e)) ++
      bytes 2 r.cells ++
      (List.finRange 4).flatMap
        (fun t => bytes 1 (r.quality.get (outerOf t) % 16 + 16 * (r.quality.get (innerOf t) % 16))) ++
      side (r.timebase.map (·.a)) ++ side (r.timebase.map (·.b))
    let map := (List.range 4096).map fun j => (s.strip i).dropout.getD j 0#8
    let running : SpanCount → SpanRecord := fun x =>
      { validity := if s.capture.overrun then .overrun else .cut, backtrack := x.backtrack, first := x.first
        frames := x.frames, residue := none, means := Oct.ofFn fun e => x.sums.get e / x.frames, overload := x.overload
        dropped := x.dropped, cells := x.cells, quality := Oct.fill 0, timebase := none }
    let shown : List SpanRecord → Prop := fun l => whole s (.strip i) = descriptor ++ l.flatMap record ++ map
    let open' : Entered → SpanCount → Prop := fun en x =>
      s.capture.pass.bind (·.entered) = some en ∧ s.capture.span = some x ∧ en.strip = i
    ((∀ en x, ¬open' en x) → shown (s.strip i).spans) ∧
    ∀ en x, open' en x → shown ((s.strip i).spans.set x.index (running x))) ∧
  (∀ (s : State) (i e f n : Nat) (el : Fin 8), el.val = e → 0 < n → f + n ≤ (s.strip i).frames.length →
    whole s (.raw i e f n) = (((s.strip i).frames.drop f).take n).flatMap fun x => signed 3 (x.samples.get el)) ∧
  ∀ (s : State) (k f n : Nat) (h : SlotHead) (r : SlotReady) (d : List (Int × Int)), s.slot k = .ready h r d →
    whole s (.rendition k f n) = ((d.drop f).take n).flatMap fun x => signed 3 x.1 ++ signed 3 x.2

/-! ## Transport advisory (09) -/

/-- A recomputation under a valid profile, step by step. The input score is the greatest advised score of the window with the
nearest segment that carries it, or the unseen score without a segment where the map is not trusted or nothing of the window
remains (R166). The effective score and its segment follow it by the hysteresis table (R167; at a hysteresis of 0 the table
is followed where the prose differs, log 19). The target speed is that of the breakpoint table, interpolated or not (R169).
The speed jumps to the last one, or moves towards the target by at most the rise or fall rate and not past it (R170), and so
stays between the last speed of the table and 1,000. The zone flag is set at the threshold and cleared below it less the
hysteresis, with ZONE_ENTER or ZONE_EXIT to the transport (R172). Nothing else changes. -/
def Obligations.AdvisorySpeedMovesOneStep : Prop :=
  ∀ (s : State) (ref : Int) (d : Dir), s.link.profile.advisory.valid = true →
    let p := s.link.profile.advisory
    let c := ref / 512
    let v := s.advisory.speed
    let t := s.recompute ref d
    let a := t.advisory
    let score : Nat → Nat := fun g =>
      match (s.segment g).operatorHazard with
      | some h => h
      | none =>
        let base := (s.segment g).hazard.getD p.unseen
        if (s.segment g).splice = none then base else max base p.spliceHazard
    let window : Nat → Prop := fun g => g < 4096 ∧ (∀ e, s.motion.tapeEnd = some e → 512 * (g : Int) < e) ∧
      (if p.ahead = false then (g : Int) = c
       else match d with
        | .forward => c + 1 ≤ g ∧ (g : Int) ≤ c + p.lookAhead
        | .reverse => c - p.lookAhead ≤ g ∧ (g : Int) ≤ c - 1)
    let trusted := s.map.session = .armed ∧ s.motion.sync = .synced
    let input : Nat × Option Nat → Prop := fun i =>
      (¬trusted ∨ (∀ g, ¬window g) → i = (p.unseen, none)) ∧
      (trusted → (∃ g, window g) → ∃ g, window g ∧ i = (score g, some g) ∧
        ∀ h, window h → score h < score g ∨ (score h = score g ∧ ((g : Int) - c).natAbs ≤ ((h : Int) - c).natAbs))
    let target : Nat → Prop := fun n => ∃ x1 s1 x5 s5, p.points.head? = some (x1, s1) ∧ p.points.getLast? = some (x5, s5) ∧
      (a.effective ≤ x1 → n = s1) ∧ (x5 ≤ a.effective → n = s5) ∧
      ∀ i x y w z : Nat, p.points[i]? = some (x, w) → p.points[i + 1]? = some (y, z) → x ≤ a.effective →
        a.effective < y →
        (n : Int) = if p.interpolate then (w : Int) + (((z : Int) - w) * ((a.effective : Int) - x)) / ((y : Int) - x) else w
    let floor := (p.points.getLastD (0, 0)).2
    let top := (p.points.getLastD (0, 0)).1
    t = { s with advisory := a, port := t.port } ∧
    (∃ i, input i ∧
      (s.advisory.effective < i.1 ∨ i.1 + p.hysteresis ≤ s.advisory.effective → (a.effective, a.scoreSegment) = i) ∧
      (i.1 ≤ s.advisory.effective → s.advisory.effective < i.1 + p.hysteresis →
        a.effective = s.advisory.effective ∧ a.scoreSegment = s.advisory.scoreSegment)) ∧
    (∃ n, target n ∧ floor ≤ n ∧
      a.speed = if p.jump = true ∧ top ≤ a.effective then floor else if v < n then min (v + p.rise) n
        else if n < v then max (v - p.fall) n else v) ∧
    (floor ≤ v → v ≤ 1000 → floor ≤ a.speed ∧ a.speed ≤ 1000) ∧
    (if s.advisory.zone then
      (a.effective + p.hysteresis < p.zone → a.zone = false ∧
        t.port = s.port.posted (.zoneExit (if 0 ≤ c ∧ c < 4096 then some c.toNat else none) a.effective)) ∧
      (p.zone ≤ a.effective + p.hysteresis → a.zone = true ∧ t.port = s.port)
     else
      (p.zone ≤ a.effective → a.zone = true ∧ t.port = s.port.posted (.zoneEnter a.scoreSegment a.effective)) ∧
      (a.effective < p.zone → a.zone = false ∧ t.port = s.port))

/-! ## The archive link (11) -/

/-- Bytes that join those held make a header at the fourth: accepted, corrected and accepted, or lost, by the receiver's
state. With nothing held that is a header of four bytes; in HUNT with three held it is the search, each next byte making the
next candidate, the first of four bytes discarded at any error. Fewer than four bytes are held. A short frame stands
complete, and untaken, until its LINK_FRAME row or the next byte (the model's choice, log 15). 10 ms with no byte discard a
frame that is incomplete after its header; that they change nothing without an accepted header is the model's reading (log
10). -/
def Obligations.HeaderAcceptedOrLost : Prop :=
  (∀ (s : State) (bs : List Byte), s.link.rx.frame = none → s.link.rx.held.length + bs.length < 4 →
    exec (.linkHeader bs) s = .next { s with link := { s.link with
      rx := { s.link.rx with held := s.link.rx.held ++ bs } } }) ∧
  (∀ (s : State) (bs : List Byte) (b0 b1 b2 b3 : Byte), s.link.rx.frame = none → bs ≠ [] →
    s.link.rx.held ++ bs = [b0, b1, b2, b3] →
    let d := b0.toNat + 256 * b1.toNat + 65536 * b2.toNat
    let begun : Nat → Option RxFrame := fun d =>
      some ⟨d / 64 % 4, d % 64, d / 256, if 32 ≤ d % 64 then d / 256 + 2 else 0, []⟩
    let t := s.link.tallies
    let link : Link := match classifyHeader d b3.toNat, s.link.rx.state with
      | .noError, _ => { s.link with rx := ⟨.framed, [], begun d⟩ }
      | .corrected d', .framed =>
        { s.link with rx := ⟨.framed, [], begun d'⟩, tallies := { t with headerCorrected := min (t.headerCorrected + 1) 65535 } }
      | .uncorrectable, .framed =>
        { s.link with rx := ⟨.hunt, [b1, b2, b3], none⟩, tallies := { t with headerLost := min (t.headerLost + 1) 65535 } }
      | _, .hunt => { s.link with rx := ⟨.hunt, [b1, b2, b3], none⟩ }
    exec (.linkHeader bs) s = .next { s with link := link }) ∧
  (∀ (s : State) (f : RxFrame), s.link.rx.frame = some f → f.bytes.length < f.need →
    exec .gapTimeout s = .next { s with link := { s.link with
      rx := ⟨.hunt, [], none⟩
      tallies := { s.link.tallies with truncated := min (s.link.tallies.truncated + 1) 65535 } } }) ∧
  ∀ s : State, s.link.rx.frame = none → exec .gapTimeout s = .next s

/-- A complete frame that is no command to take: on channel 2 or 3 discarded and counted; on channel 1 or of an unknown kind
answered UNKNOWN; with a failed CRC, CRC_ERROR; with another length than R203's table gives kinds 32 to 42, RANGE, or
BAD_PROFILE for PROFILE_LOAD. At a pending
list of 16 every link command but RESTART, and every frame that would be answered UNKNOWN, CRC_ERROR or RANGE, is discarded
and counted DROPPED alone, and nothing else changes. -/
def Obligations.FramesSortedByFirstCase : Prop :=
  (List.range 11).map (fun k => payloadLength (32 + k)) = [52, 3, 7, 4, 4, 4, 1, 3, 2, 6, 8] ∧
  (∀ (s : State) (f : RxFrame) (bs : List Byte), s.link.rx.frame = some f → f.bytes.length + bs.length = f.need →
    let body := f.bytes ++ bs
    let payload := body.take f.field
    let base : State := { s with link := { s.link with rx := { s.link.rx with frame := none } } }
    let known := (1 ≤ f.kind ∧ f.kind ≤ 9) ∨ (32 ≤ f.kind ∧ f.kind ≤ 42)
    let crcOk := (crc payload).toNat = ofLe (body.drop f.field)
    let t := s.link.tallies
    (2 ≤ f.channel → Completes (.linkFrame bs) s
      { base with link := { base.link with tallies := { t with otherChannel := min (t.otherChannel + 1) 65535 } } }) ∧
    (s.hasRoom →
      (f.channel = 1 ∨ (f.channel = 0 ∧ ¬known) → Completes (.linkFrame bs) s
        { base with link := { base.link with
          tallies := { t with unknownKind := min (t.unknownKind + 1) 65535 } }.answered f.kind .unknown .empty }) ∧
      (f.channel = 0 → 32 ≤ f.kind → f.kind ≤ 42 → ¬crcOk → Completes (.linkFrame bs) s
        { base with link := { base.link with
          tallies := { t with payloadFailed := min (t.payloadFailed + 1) 65535 } }.answered f.kind .crcError .empty }) ∧
      (f.channel = 0 → 32 ≤ f.kind → f.kind ≤ 42 → crcOk → f.field ≠ payloadLength f.kind →
        Completes (.linkFrame bs) s
          { base with link := base.link.answered f.kind (if f.kind = 32 then .badProfile else .range) .empty })) ∧
    (16 ≤ s.link.commands.length →
      f.channel = 1 ∨ (f.channel = 0 ∧ ¬known) ∨
        (f.channel = 0 ∧ 32 ≤ f.kind ∧ f.kind ≤ 42 ∧ (¬crcOk ∨ f.field ≠ payloadLength f.kind)) →
      exec (.linkFrame bs) s = .next
        { base with link := { base.link with tallies := { t with dropped := min (t.dropped + 1) 65535 } } })) ∧
  ∀ (c : Instr) (f : CommandFrame) (s : State), commandFrame c = some f → c ≠ .workstationRestart →
    16 ≤ s.link.commands.length →
    exec c s = .next { s with link := { s.link with
      tallies := { s.link.tallies with dropped := min (s.link.tallies.dropped + 1) 65535 } } }

/-- PROFILE_LOAD is BUSY while a pass is open or a job is in flight, BAD_PROFILE for an image that is no valid profile, and
otherwise replaces the profile and raises a lower advisory speed to the last speed of its table. A profile is valid when
every field lies in its range (11.4, 9), the initial level is no lower than the level floor, every track has an enabled
element, and the five points of the breakpoint table have ascending scores and speeds that do not increase (R168). What the
bytes of an image stand for is in ProfileImageReadsBack. -/
def Obligations.ProfileLoadTestedThenHeld : Prop :=
  let advisory : AdvisorySettings → Prop := fun a =>
    1 ≤ a.lookAhead ∧ a.lookAhead ≤ 8 ∧ a.points.length = 5 ∧
      (∀ q ∈ a.points, q.1 ≤ 255 ∧ 400 ≤ q.2 ∧ q.2 ≤ 1000) ∧
      a.points.Pairwise (fun q r => q.1 < r.1 ∧ r.2 ≤ q.2) ∧ a.hysteresis ≤ 64 ∧ 1 ≤ a.rise ∧ a.rise ≤ 600 ∧
      1 ≤ a.fall ∧ a.fall ≤ 600 ∧ a.zone ≤ 255 ∧ a.unseen ≤ 255 ∧ a.spliceHazard ≤ 255
  (∀ a : AdvisorySettings, a.valid = true ↔ advisory a) ∧
  (∀ p : Profile,
    let t := p.timebase
    let c := p.capture
    p.valid = true ↔ 30000 ≤ t.speed ∧ t.speed ≤ 100000 ∧ 60000 ≤ t.bias ∧ t.bias ≤ 150000 ∧ 8 ≤ t.window ∧
      t.window ≤ 128 ∧ 1 ≤ t.slewUp ∧ t.slewUp ≤ 16777215 ∧ 1 ≤ t.slewDown ∧ t.slewDown ≤ 16777215 ∧
      (∀ k : Fin 4, c.enables.get (outerOf k) = true ∨ c.enables.get (innerOf k) = true) ∧ 1 ≤ c.dropThreshold ∧
      c.dropThreshold ≤ 255 ∧ 1 ≤ c.levelFloor ∧ c.levelFloor ≤ c.initialLevel ∧ c.initialLevel ≤ 8388607 ∧
      1 ≤ p.wearLimit ∧ p.wearLimit ≤ 254 ∧ 1 ≤ p.takeTimeout ∧ p.takeTimeout ≤ 600 ∧ advisory p.advisory) ∧
  ∀ (image : List Byte) (s : State), s.hasRoom → image.length = 52 →
    (s.capture.pass ≠ none ∨ s.render.job ≠ none → Completes (.profileLoad image) s (s.answering 32 .busy .empty)) ∧
    (s.capture.pass = none → s.render.job = none →
      (readProfile image = none → Completes (.profileLoad image) s (s.answering 32 .badProfile .empty)) ∧
      ∀ p, readProfile image = some p → p.valid = true ∧ Completes (.profileLoad image) s
        { s with
          advisory := { s.advisory with speed := max s.advisory.speed (p.advisory.points.getLastD (0, 0)).2 }
          link := { s.link with profile := p }.answered 32 .ok .empty })

/-- NEW_TAPE is BUSY while a pass is open; otherwise it clears the map, every version one higher, ends requests, renders and
reads, vacates every strip and slot, and sets the session. The notices go out in the order of R99: REQUEST_CANCELLED for each
request in queue order, RENDER_ABORTED for the job in flight and then the queued jobs that are ASKED, SESSION_CHANGED; a
taken request is also reported to the transport and is the last outcome. That a vacated strip is blank is the model's choice
(log 14), as is that writes still waiting are dropped (log 8), and that a rendition fetch is ended with the strip reads is
its reading (log 29). -/
def Obligations.NewTapeClearsMap : Prop :=
  ∀ s : State, s.hasRoom →
    (s.capture.pass ≠ none → Completes .newTape s (s.answering 7 .busy .empty)) ∧
    (s.requestsSound → s.capture.pass = none →
      let session : Session := match s.map.session with
        | .vacant => .vacant | .armed => .armed | .detached => .vacant | .stale => .armed
      let facts : Request → RequestFacts := fun r => ⟨r.id, r.first, r.last, r.next⟩
      let taken := s.requests.queue.filter fun r => decide (r.state ≠ .queued)
      let flying := s.render.job.toList.filterMap fun j =>
        if j.asked then some (WorkNotice.renderAborted j.segment j.side .newTape) else none
      let waiting := s.render.queue.filterMap fun j =>
        if j.asked then some (WorkNotice.renderAborted j.segment j.side .newTape) else none
      let notices := (s.requests.queue.map fun r => WorkNotice.requestCancelled (facts r)) ++ flying ++ waiting ++
        [.sessionChanged session true]
      ∃ u, Completes .newTape s u ∧
      (∀ g, g < 4096 → u.segment g =
        { state := .unseen, entries := [], wear := 0, hazard := none, operatorHazard := none, splice := none, keep := false
          changes := (s.segment g).changes + 1, rendition := ⟨⟨none, none⟩, ⟨none, none⟩⟩ }) ∧
      u.map.session = session ∧
      u.map.passCounter = 0 ∧ u.map.tapeEndSegment = none ∧ u.map.counts = ⟨4096, 0, 0, 0⟩ ∧
      (∀ i, u.strip i = ⟨.vacant, none, none, [], [], []⟩) ∧ u.store.ringPointer = 0 ∧ u.store.keptSegments = 0 ∧ u.store.keptStrips = 0 ∧
      u.store.writeBuffer = [] ∧ u.store.stripCount = s.store.stripCount ∧ u.store.lastReader = s.store.lastReader ∧
      u.motion = { s.motion with
        sync := .unsynced, largestSlip := 0, slipCount := 0, syncFaults := 0, tapeEnd := none, run := none } ∧
      u.capture = { s.capture with limitNoticed := false } ∧
      u.requests.queue = [] ∧ u.requests.takeTimer = none ∧ u.requests.lastId = s.requests.lastId ∧
      (∀ r ∈ s.requests.queue, u.idState r.id = .ended) ∧
      u.requests.lastOutcome = (match taken with
        | r :: _ => some ⟨.cancelled, facts r⟩
        | [] => s.requests.lastOutcome) ∧
      u.render = ⟨[], false, none⟩ ∧ (∀ k, u.slot k = .free) ∧ u.slots.completion = [] ∧
      u.port = taken.foldl (fun p r => p.posted (.requestCancelled (facts r))) s.port ∧
      u.link = { s.link.postedAll notices with
        commands := (s.link.commands.map fun c => match c.answer with
          | .reading _ => ⟨c.kind, .formed ⟨c.kind, .evicted, .empty⟩ none⟩
          | .formed _ _ => c) ++ [⟨7, .formed ⟨7, .ok, .empty⟩ none⟩] } ∧
      u.advisory = s.advisory ∧ u.pins = s.pins ∧ u.timebase = s.timebase)

/-- RESUME_TAPE makes a STALE session ARMED with the map kept and the part UNSYNCED, and is refused STATE in any other. -/
def Obligations.ResumeTapeOnlyWhenStale : Prop :=
  ∀ s : State, s.hasRoom →
    (s.map.session ≠ .stale → Completes .resumeTape s (s.answering 8 .state .empty)) ∧
    (s.map.session = .stale → Completes .resumeTape s
      { s with
        motion := { s.motion with sync := .unsynced, run := none }, map := { s.map with session := .armed }
        link := (s.link.posted (.sessionChanged .armed false)).answered 8 .ok .empty })

/-- RESTART of the workstation, at any pending list: the list holds the RESTART alone, the notice list RESTARTED alone, the
QUEUED requests, the renders, the slots and the link tallies are gone, and the rest of the part is untouched. -/
def Obligations.WorkstationRestartLeavesRest : Prop :=
  ∀ s : State, s.canonical → s.requestsSound → ∃ u, Completes .workstationRestart s u ∧
    u.requests.queue = (s.requests.queue.filter fun r => r.state ≠ .queued) ∧
    (∀ r ∈ s.requests.queue, r.state = .queued → u.idState r.id = .ended) ∧
    (∀ id, (∀ r ∈ s.requests.queue, r.state = .queued → r.id ≠ id) → u.idState id = s.idState id) ∧
    (∀ g, u.segment g = { s.segment g with rendition :=
      ⟨⟨none, (s.segment g).rendition.a.unrecovered⟩, ⟨none, (s.segment g).rendition.b.unrecovered⟩⟩ }) ∧
    u = { s with
      map := { s.map with segments := u.map.segments }
      requests := { s.requests with queue := u.requests.queue, ids := u.requests.ids }
      render := ⟨[], false, none⟩, slots := ⟨[], []⟩
      link := { s.link with
        tx := s.link.tx.map fun t => if t.role = .notice then t else { t with role := .orphan }
        commands := [⟨9, .formed ⟨9, .ok, .empty⟩ none⟩], notices := [.restarted], lostNotices := 0
        tallies := ⟨0, 0, 0, 0, 0, 0, 0, 0⟩ } }

/-- A frame sent: a read's OK response is followed straight by its data frame; any other frame frees the transmitter, and the
head leaves the list once answered in full. Free, the transmitter sends a formed head response before any notice. It does so
at once after every event: what an event leaves is settled by a grant and then the transmitter's choice (Completes says so of
each), a settled transmitter is free only while neither a formed head response nor a notice waits, and every event keeps
that. That nothing changes with an idle transmitter is the model's choice (log 11). The frames are those of R202 and R203: a
header of tag, payload length and check byte, the payload, its CRC; a response on channel 0 of kind 62 with the kind, the
status and the result fields (those of the read commands are in ReadCommandsAnswerFromState), a notice of kind 63 with its
code, the lost-notice count and its arguments. That a slip takes 3 bytes is the model's reading (log 12). -/
def Obligations.TransmitterSendsInOrder : Prop :=
  let bytes : Nat → Nat → List Byte := fun w n => (List.range w).map fun k => BitVec.ofNat 8 (n / 256 ^ k)
  let signed : Nat → Int → List Byte := fun w x => bytes w (x % 256 ^ w).toNat
  let facts : RequestFacts → List Byte := fun f => bytes 1 f.id ++ bytes 2 f.first ++ bytes 2 f.last ++ bytes 2 f.next
  let side : Side → Nat
    | .A => 0 | .B => 1
  let content : WorkNotice → Nat × List Byte
    | .passOpened p g x => (1, bytes 2 p ++ bytes 2 g ++ signed 3 x)
    | .passClosed p c g x => (2, bytes 2 p ++
        bytes 1 (match c with | .motion => 0 | .restart => 1 | .mapEdge => 2 | .endMark => 3 | .inputLost => 4) ++
        bytes 2 g ++ signed 3 x)
    | .inputLost p x => (3, bytes 2 p ++ signed 3 x)
    | .passLimit => (4, [])
    | .syncFault x => (5, signed 3 x)
    | .endMark e => (6, signed 3 e)
    | .segmentGone g => (7, bytes 2 g)
    | .sessionChanged x cleared => (8,
        bytes 1 (match x with | .vacant => 0 | .armed => 1 | .detached => 2 | .stale => 3) ++ bytes 1 cleared.toNat)
    | .requestDone f => (9, facts f)
    | .requestCancelled f => (10, facts f)
    | .requestExpired f => (11, facts f)
    | .requestAbandoned f => (12, facts f)
    | .renderReady k h stale r => (13, bytes 1 k ++ bytes 2 h.segment ++ bytes 1 (side h.side) ++ bytes 1 stale.toNat ++
        bytes 3 h.sampleCount ++ bytes 2 r.unrecovered0 ++ bytes 2 r.unrecovered1 ++ bytes 2 r.alignEdge)
    | .renderAborted g sd c => (14, bytes 2 g ++ bytes 1 (side sd) ++
        bytes 1 (match c with | .notHeld => 0 | .evicted => 1 | .newTape => 2))
    | .restarted => (15, [])
  (∀ f : OutFrame, f.channel < 4 → f.kind < 64 →
    f.bytes = bytes 1 (64 * f.channel + f.kind) ++ bytes 2 f.payload.length ++
        bytes 1 (checkByte (64 * f.channel + f.kind + 256 * f.payload.length)) ++ f.payload ++
        bytes 2 (crc f.payload).toNat ∧
      f.bits = f.bytes.flatMap fun b => [0, 1, 2, 3, 4, 5, 6, 7].map b.getLsbD) ∧
  (∀ l : List Byte, crc l = (l.flatMap fun b => [0, 1, 2, 3, 4, 5, 6, 7].map b.getLsbD).foldl
    (fun (r : BitVec 16) bit => if bit = r.getLsbD 15 then r <<< 1 else (r <<< 1) ^^^ 0x8005#16) 0xFFFF#16) ∧
  (∀ r : Response, r.frame = ⟨0, 62, bytes 1 r.kind ++ bytes 1 r.status.code ++ r.result.bytes⟩) ∧
  [Status.ok, .busy, .range, .full, .worn, .duplicate, .none, .notHeld, .evicted, .keepLimit, .badProfile, .state, .tooLate,
    .unknown, .crcError].map Status.code = List.range 15 ∧
  (∀ (v : BitVec 32) (k : Option Nat) (i e f n : Nat),
    Result.empty.bytes = [] ∧ (Result.version v).bytes = bytes 4 v.toNat ∧ (Result.count n).bytes = bytes 2 n ∧
    (Result.id n).bytes = bytes 1 n ∧ (Result.slot k).bytes = bytes 1 (k.getD 255) ∧
    (Result.strip i).bytes = bytes 2 i ∧ (Result.raw i e f n).bytes = bytes 2 i ++ bytes 1 e ++ bytes 3 f ++ bytes 2 n ∧
    (Result.rendition i f n).bytes = bytes 1 i ++ bytes 3 f ++ bytes 2 n) ∧
  (∀ (n : WorkNotice) (lost : Nat),
    n.frame lost = ⟨0, 63, bytes 1 (content n).1 ++ bytes 2 lost ++ (content n).2⟩) ∧
  (∀ s : State, s.link.tx = none → Completes .linkFrameSent s s) ∧
  (∀ (s : State) (t : Transmission), s.link.tx = some t → t.role = .notice ∨ t.role = .orphan →
    Completes .linkFrameSent s { s with link := { s.link with tx := none } }) ∧
  (∀ (s : State) (t : Transmission) (c : PendingCommand) (rest : List PendingCommand), s.link.tx = some t →
    s.link.commands = c :: rest → t.role = .data ∨ (t.role = .response ∧ ∃ r, c.answer = .formed r none) →
    Completes .linkFrameSent s { s with link := { s.link with tx := none, commands := rest } }) ∧
  (∀ (s : State) (t : Transmission) (kind : Nat) (r : Response) (d : List Byte) (rest : List PendingCommand),
    s.link.tx = some t → t.role = .response → s.link.commands = ⟨kind, .formed r (some d)⟩ :: rest →
    Completes .linkFrameSent s
      { s with link := { s.link with tx := some ⟨.data, ⟨1, if kind = 4 then 36 else kind, d⟩⟩ } }) ∧
  (∀ (s : State) (kind : Nat) (r : Response) (d : Option (List Byte)) (rest : List PendingCommand), s.link.tx = none →
    s.link.commands = ⟨kind, .formed r d⟩ :: rest →
    s.transmit = { s with link := { s.link with tx := some ⟨.response, r.frame⟩ } }) ∧
  (∀ (s : State) (n : WorkNotice) (rest : List WorkNotice), s.link.tx = none →
    (∀ c, s.link.commands.head? = some c → ∃ r, c.answer = .reading r) → s.link.notices = n :: rest →
    s.transmit = { s with link := { s.link with
      tx := some ⟨.notice, n.frame s.link.lostNotices⟩, notices := rest, lostNotices := 0 } }) ∧
  (∀ s : State, s.lineServed → s.transmit = s) ∧
  (∀ s : State, s.settle = s.grant.transmit ∧ s.settle.lineServed) ∧
  ∀ (c : Instr) (s t : State), s.lineServed → exec c s = .next t → t.lineServed
end

