-- ==== Sys2Proof/Laws/Exec.lean ====
section
/-! SUPPORT. `exec` at each command is that command's meaning, and `step` takes the front of the queue. -/

namespace Sys2Proof.Machine

variable (s : State)

@[simp] theorem exec_powerOnReset (strap : Strap) (sensor : Level) :
    exec (.powerOnReset strap sensor) s = execPowerOnReset strap sensor s := rfl
@[simp] theorem exec_tachometerPulse (dir : Dir) (sensor : Level) :
    exec (.tachometerPulse dir sensor) s = execTachometerPulse dir sensor s := rfl
@[simp] theorem exec_elementFrame (bytes : List Byte) : exec (.elementFrame bytes) s = execElementFrame bytes s := rfl
@[simp] theorem exec_inputTimerExpiry : exec .inputTimerExpiry s = execInputTimerExpiry s := rfl
@[simp] theorem exec_takeTimerExpiry : exec .takeTimerExpiry s = execTakeTimerExpiry s := rfl
@[simp] theorem exec_status : exec .status s = execStatus s := rfl
@[simp] theorem exec_motion (mode : Nat) (sensor : Level) :
    exec (.motion mode sensor) s = execMotion mode sensor s := rfl
@[simp] theorem exec_take : exec .take s = execTake s := rfl
@[simp] theorem exec_abandon (id : Nat) : exec (.abandon id) s = execAbandon id s := rfl
@[simp] theorem exec_notice : exec .notice s = execNotice s := rfl
@[simp] theorem exec_ahead : exec .ahead s = execAhead s := rfl
@[simp] theorem exec_transportRestart : exec .transportRestart s = execTransportRestart s := rfl
@[simp] theorem exec_unknownCommand (command : Nat) :
    exec (.unknownCommand command) s = execUnknownCommand command s := rfl
@[simp] theorem exec_transactionDiscarded (received : List Byte) :
    exec (.transactionDiscarded received) s = execTransactionDiscarded received s := rfl
@[simp] theorem exec_linkHeader (bytes : List Byte) : exec (.linkHeader bytes) s = execLinkHeader bytes s := rfl
@[simp] theorem exec_gapTimeout : exec .gapTimeout s = execGapTimeout s := rfl
@[simp] theorem exec_linkFrame (bytes : List Byte) : exec (.linkFrame bytes) s = execLinkFrame bytes s := rfl
@[simp] theorem exec_profileLoad (image : List Byte) : exec (.profileLoad image) s = execProfileLoad image s := rfl
@[simp] theorem exec_profileRead : exec .profileRead s = execProfileRead s := rfl
@[simp] theorem exec_mapRead (first count : Nat) : exec (.mapRead first count) s = execMapRead first count s := rfl
@[simp] theorem exec_mapSummary : exec .mapSummary s = execMapSummary s := rfl
@[simp] theorem exec_excludePass (segment pass : Nat) :
    exec (.excludePass segment pass) s = execExcludePass segment pass s := rfl
@[simp] theorem exec_includePass (segment pass : Nat) :
    exec (.includePass segment pass) s = execIncludePass segment pass s := rfl
@[simp] theorem exec_setHazard (first last value : Nat) :
    exec (.setHazard first last value) s = execSetHazard first last value s := rfl
@[simp] theorem exec_clearHazard (first last : Nat) :
    exec (.clearHazard first last) s = execClearHazard first last s := rfl
@[simp] theorem exec_setSplice (segment offset : Nat) :
    exec (.setSplice segment offset) s = execSetSplice segment offset s := rfl
@[simp] theorem exec_clearSplice (segment : Nat) : exec (.clearSplice segment) s = execClearSplice segment s := rfl
@[simp] theorem exec_keep (first last : Nat) : exec (.keep first last) s = execKeep first last s := rfl
@[simp] theorem exec_unkeep (first last : Nat) : exec (.unkeep first last) s = execUnkeep first last s := rfl
@[simp] theorem exec_requestAppend (first last : Nat) :
    exec (.requestAppend first last) s = execRequestAppend first last s := rfl
@[simp] theorem exec_requestCancel (id : Nat) : exec (.requestCancel id) s = execRequestCancel id s := rfl
@[simp] theorem exec_queueRead : exec .queueRead s = execQueueRead s := rfl
@[simp] theorem exec_render (segment side : Nat) : exec (.render segment side) s = execRender segment side s := rfl
@[simp] theorem exec_slotRead (first count : Nat) : exec (.slotRead first count) s = execSlotRead first count s := rfl
@[simp] theorem exec_fetchRendition (slot first count : Nat) :
    exec (.fetchRendition slot first count) s = execFetchRendition slot first count s := rfl
@[simp] theorem exec_slotRelease (slot : Nat) : exec (.slotRelease slot) s = execSlotRelease slot s := rfl
@[simp] theorem exec_stripRead (strip : Nat) : exec (.stripRead strip) s = execStripRead strip s := rfl
@[simp] theorem exec_fetchRaw (strip element first count : Nat) :
    exec (.fetchRaw strip element first count) s = execFetchRaw strip element first count s := rfl
@[simp] theorem exec_tallyRead : exec .tallyRead s = execTallyRead s := rfl
@[simp] theorem exec_newTape : exec .newTape s = execNewTape s := rfl
@[simp] theorem exec_resumeTape : exec .resumeTape s = execResumeTape s := rfl
@[simp] theorem exec_workstationRestart : exec .workstationRestart s = execWorkstationRestart s := rfl
@[simp] theorem exec_linkFrameSent : exec .linkFrameSent s = execLinkFrameSent s := rfl
@[simp] theorem exec_writeBurstComplete : exec .writeBurstComplete s = execWriteBurstComplete s := rfl
@[simp] theorem exec_linkReadBurstComplete : exec .linkReadBurstComplete s = execLinkReadBurstComplete s := rfl
@[simp] theorem exec_renderBurstComplete : exec .renderBurstComplete s = execRenderBurstComplete s := rfl

/-- A step takes the front of the queue. -/
theorem step_cons (c : Instr) (rest : List Instr) (h : s.pending = c :: rest) :
    step s = exec c { s with pending := rest } := by
  unfold step
  simp only [h]

/-- With no command waiting a millisecond passes. -/
theorem step_nil (h : s.pending = []) : step s = .next s.millisecond := by
  unfold step
  simp only [h]

end Sys2Proof.Machine
end

