-- ==== Sys2Proof/Laws/State.lean ====
section
/-! SUPPORT. One lemma per field for each update of a block: the block written reads as written, every other field as
before. -/

namespace Sys2Proof.Machine

variable (s : State)

@[simp] theorem State.setPins_pins (x : Pins) : (s.setPins x).pins = x := rfl
@[simp] theorem State.setPins_motion (x : Pins) : (s.setPins x).motion = s.motion := rfl
@[simp] theorem State.setPins_capture (x : Pins) : (s.setPins x).capture = s.capture := rfl
@[simp] theorem State.setPins_timebase (x : Pins) : (s.setPins x).timebase = s.timebase := rfl
@[simp] theorem State.setPins_store (x : Pins) : (s.setPins x).store = s.store := rfl
@[simp] theorem State.setPins_map (x : Pins) : (s.setPins x).map = s.map := rfl
@[simp] theorem State.setPins_requests (x : Pins) : (s.setPins x).requests = s.requests := rfl
@[simp] theorem State.setPins_render (x : Pins) : (s.setPins x).render = s.render := rfl
@[simp] theorem State.setPins_slots (x : Pins) : (s.setPins x).slots = s.slots := rfl
@[simp] theorem State.setPins_advisory (x : Pins) : (s.setPins x).advisory = s.advisory := rfl
@[simp] theorem State.setPins_port (x : Pins) : (s.setPins x).port = s.port := rfl
@[simp] theorem State.setPins_link (x : Pins) : (s.setPins x).link = s.link := rfl
@[simp] theorem State.setPins_free (x : Pins) : (s.setPins x).free = s.free := rfl
@[simp] theorem State.setPins_pending (x : Pins) : (s.setPins x).pending = s.pending := rfl

@[simp] theorem State.setMotion_pins (x : Motion) : (s.setMotion x).pins = s.pins := rfl
@[simp] theorem State.setMotion_motion (x : Motion) : (s.setMotion x).motion = x := rfl
@[simp] theorem State.setMotion_capture (x : Motion) : (s.setMotion x).capture = s.capture := rfl
@[simp] theorem State.setMotion_timebase (x : Motion) : (s.setMotion x).timebase = s.timebase := rfl
@[simp] theorem State.setMotion_store (x : Motion) : (s.setMotion x).store = s.store := rfl
@[simp] theorem State.setMotion_map (x : Motion) : (s.setMotion x).map = s.map := rfl
@[simp] theorem State.setMotion_requests (x : Motion) : (s.setMotion x).requests = s.requests := rfl
@[simp] theorem State.setMotion_render (x : Motion) : (s.setMotion x).render = s.render := rfl
@[simp] theorem State.setMotion_slots (x : Motion) : (s.setMotion x).slots = s.slots := rfl
@[simp] theorem State.setMotion_advisory (x : Motion) : (s.setMotion x).advisory = s.advisory := rfl
@[simp] theorem State.setMotion_port (x : Motion) : (s.setMotion x).port = s.port := rfl
@[simp] theorem State.setMotion_link (x : Motion) : (s.setMotion x).link = s.link := rfl
@[simp] theorem State.setMotion_free (x : Motion) : (s.setMotion x).free = s.free := rfl
@[simp] theorem State.setMotion_pending (x : Motion) : (s.setMotion x).pending = s.pending := rfl

@[simp] theorem State.setCapture_pins (x : Capture) : (s.setCapture x).pins = s.pins := rfl
@[simp] theorem State.setCapture_motion (x : Capture) : (s.setCapture x).motion = s.motion := rfl
@[simp] theorem State.setCapture_capture (x : Capture) : (s.setCapture x).capture = x := rfl
@[simp] theorem State.setCapture_timebase (x : Capture) : (s.setCapture x).timebase = s.timebase := rfl
@[simp] theorem State.setCapture_store (x : Capture) : (s.setCapture x).store = s.store := rfl
@[simp] theorem State.setCapture_map (x : Capture) : (s.setCapture x).map = s.map := rfl
@[simp] theorem State.setCapture_requests (x : Capture) : (s.setCapture x).requests = s.requests := rfl
@[simp] theorem State.setCapture_render (x : Capture) : (s.setCapture x).render = s.render := rfl
@[simp] theorem State.setCapture_slots (x : Capture) : (s.setCapture x).slots = s.slots := rfl
@[simp] theorem State.setCapture_advisory (x : Capture) : (s.setCapture x).advisory = s.advisory := rfl
@[simp] theorem State.setCapture_port (x : Capture) : (s.setCapture x).port = s.port := rfl
@[simp] theorem State.setCapture_link (x : Capture) : (s.setCapture x).link = s.link := rfl
@[simp] theorem State.setCapture_free (x : Capture) : (s.setCapture x).free = s.free := rfl
@[simp] theorem State.setCapture_pending (x : Capture) : (s.setCapture x).pending = s.pending := rfl

@[simp] theorem State.setTimebase_pins (x : Option Timebase) : (s.setTimebase x).pins = s.pins := rfl
@[simp] theorem State.setTimebase_motion (x : Option Timebase) : (s.setTimebase x).motion = s.motion := rfl
@[simp] theorem State.setTimebase_capture (x : Option Timebase) : (s.setTimebase x).capture = s.capture := rfl
@[simp] theorem State.setTimebase_timebase (x : Option Timebase) : (s.setTimebase x).timebase = x := rfl
@[simp] theorem State.setTimebase_store (x : Option Timebase) : (s.setTimebase x).store = s.store := rfl
@[simp] theorem State.setTimebase_map (x : Option Timebase) : (s.setTimebase x).map = s.map := rfl
@[simp] theorem State.setTimebase_requests (x : Option Timebase) : (s.setTimebase x).requests = s.requests := rfl
@[simp] theorem State.setTimebase_render (x : Option Timebase) : (s.setTimebase x).render = s.render := rfl
@[simp] theorem State.setTimebase_slots (x : Option Timebase) : (s.setTimebase x).slots = s.slots := rfl
@[simp] theorem State.setTimebase_advisory (x : Option Timebase) : (s.setTimebase x).advisory = s.advisory := rfl
@[simp] theorem State.setTimebase_port (x : Option Timebase) : (s.setTimebase x).port = s.port := rfl
@[simp] theorem State.setTimebase_link (x : Option Timebase) : (s.setTimebase x).link = s.link := rfl
@[simp] theorem State.setTimebase_free (x : Option Timebase) : (s.setTimebase x).free = s.free := rfl
@[simp] theorem State.setTimebase_pending (x : Option Timebase) : (s.setTimebase x).pending = s.pending := rfl

@[simp] theorem State.setStore_pins (x : Store) : (s.setStore x).pins = s.pins := rfl
@[simp] theorem State.setStore_motion (x : Store) : (s.setStore x).motion = s.motion := rfl
@[simp] theorem State.setStore_capture (x : Store) : (s.setStore x).capture = s.capture := rfl
@[simp] theorem State.setStore_timebase (x : Store) : (s.setStore x).timebase = s.timebase := rfl
@[simp] theorem State.setStore_store (x : Store) : (s.setStore x).store = x := rfl
@[simp] theorem State.setStore_map (x : Store) : (s.setStore x).map = s.map := rfl
@[simp] theorem State.setStore_requests (x : Store) : (s.setStore x).requests = s.requests := rfl
@[simp] theorem State.setStore_render (x : Store) : (s.setStore x).render = s.render := rfl
@[simp] theorem State.setStore_slots (x : Store) : (s.setStore x).slots = s.slots := rfl
@[simp] theorem State.setStore_advisory (x : Store) : (s.setStore x).advisory = s.advisory := rfl
@[simp] theorem State.setStore_port (x : Store) : (s.setStore x).port = s.port := rfl
@[simp] theorem State.setStore_link (x : Store) : (s.setStore x).link = s.link := rfl
@[simp] theorem State.setStore_free (x : Store) : (s.setStore x).free = s.free := rfl
@[simp] theorem State.setStore_pending (x : Store) : (s.setStore x).pending = s.pending := rfl

@[simp] theorem State.setMap_pins (x : TapeMap) : (s.setMap x).pins = s.pins := rfl
@[simp] theorem State.setMap_motion (x : TapeMap) : (s.setMap x).motion = s.motion := rfl
@[simp] theorem State.setMap_capture (x : TapeMap) : (s.setMap x).capture = s.capture := rfl
@[simp] theorem State.setMap_timebase (x : TapeMap) : (s.setMap x).timebase = s.timebase := rfl
@[simp] theorem State.setMap_store (x : TapeMap) : (s.setMap x).store = s.store := rfl
@[simp] theorem State.setMap_map (x : TapeMap) : (s.setMap x).map = x := rfl
@[simp] theorem State.setMap_requests (x : TapeMap) : (s.setMap x).requests = s.requests := rfl
@[simp] theorem State.setMap_render (x : TapeMap) : (s.setMap x).render = s.render := rfl
@[simp] theorem State.setMap_slots (x : TapeMap) : (s.setMap x).slots = s.slots := rfl
@[simp] theorem State.setMap_advisory (x : TapeMap) : (s.setMap x).advisory = s.advisory := rfl
@[simp] theorem State.setMap_port (x : TapeMap) : (s.setMap x).port = s.port := rfl
@[simp] theorem State.setMap_link (x : TapeMap) : (s.setMap x).link = s.link := rfl
@[simp] theorem State.setMap_free (x : TapeMap) : (s.setMap x).free = s.free := rfl
@[simp] theorem State.setMap_pending (x : TapeMap) : (s.setMap x).pending = s.pending := rfl

@[simp] theorem State.setRequests_pins (x : Requests) : (s.setRequests x).pins = s.pins := rfl
@[simp] theorem State.setRequests_motion (x : Requests) : (s.setRequests x).motion = s.motion := rfl
@[simp] theorem State.setRequests_capture (x : Requests) : (s.setRequests x).capture = s.capture := rfl
@[simp] theorem State.setRequests_timebase (x : Requests) : (s.setRequests x).timebase = s.timebase := rfl
@[simp] theorem State.setRequests_store (x : Requests) : (s.setRequests x).store = s.store := rfl
@[simp] theorem State.setRequests_map (x : Requests) : (s.setRequests x).map = s.map := rfl
@[simp] theorem State.setRequests_requests (x : Requests) : (s.setRequests x).requests = x := rfl
@[simp] theorem State.setRequests_render (x : Requests) : (s.setRequests x).render = s.render := rfl
@[simp] theorem State.setRequests_slots (x : Requests) : (s.setRequests x).slots = s.slots := rfl
@[simp] theorem State.setRequests_advisory (x : Requests) : (s.setRequests x).advisory = s.advisory := rfl
@[simp] theorem State.setRequests_port (x : Requests) : (s.setRequests x).port = s.port := rfl
@[simp] theorem State.setRequests_link (x : Requests) : (s.setRequests x).link = s.link := rfl
@[simp] theorem State.setRequests_free (x : Requests) : (s.setRequests x).free = s.free := rfl
@[simp] theorem State.setRequests_pending (x : Requests) : (s.setRequests x).pending = s.pending := rfl

@[simp] theorem State.setRender_pins (x : Render) : (s.setRender x).pins = s.pins := rfl
@[simp] theorem State.setRender_motion (x : Render) : (s.setRender x).motion = s.motion := rfl
@[simp] theorem State.setRender_capture (x : Render) : (s.setRender x).capture = s.capture := rfl
@[simp] theorem State.setRender_timebase (x : Render) : (s.setRender x).timebase = s.timebase := rfl
@[simp] theorem State.setRender_store (x : Render) : (s.setRender x).store = s.store := rfl
@[simp] theorem State.setRender_map (x : Render) : (s.setRender x).map = s.map := rfl
@[simp] theorem State.setRender_requests (x : Render) : (s.setRender x).requests = s.requests := rfl
@[simp] theorem State.setRender_render (x : Render) : (s.setRender x).render = x := rfl
@[simp] theorem State.setRender_slots (x : Render) : (s.setRender x).slots = s.slots := rfl
@[simp] theorem State.setRender_advisory (x : Render) : (s.setRender x).advisory = s.advisory := rfl
@[simp] theorem State.setRender_port (x : Render) : (s.setRender x).port = s.port := rfl
@[simp] theorem State.setRender_link (x : Render) : (s.setRender x).link = s.link := rfl
@[simp] theorem State.setRender_free (x : Render) : (s.setRender x).free = s.free := rfl
@[simp] theorem State.setRender_pending (x : Render) : (s.setRender x).pending = s.pending := rfl

@[simp] theorem State.setSlots_pins (x : Slots) : (s.setSlots x).pins = s.pins := rfl
@[simp] theorem State.setSlots_motion (x : Slots) : (s.setSlots x).motion = s.motion := rfl
@[simp] theorem State.setSlots_capture (x : Slots) : (s.setSlots x).capture = s.capture := rfl
@[simp] theorem State.setSlots_timebase (x : Slots) : (s.setSlots x).timebase = s.timebase := rfl
@[simp] theorem State.setSlots_store (x : Slots) : (s.setSlots x).store = s.store := rfl
@[simp] theorem State.setSlots_map (x : Slots) : (s.setSlots x).map = s.map := rfl
@[simp] theorem State.setSlots_requests (x : Slots) : (s.setSlots x).requests = s.requests := rfl
@[simp] theorem State.setSlots_render (x : Slots) : (s.setSlots x).render = s.render := rfl
@[simp] theorem State.setSlots_slots (x : Slots) : (s.setSlots x).slots = x := rfl
@[simp] theorem State.setSlots_advisory (x : Slots) : (s.setSlots x).advisory = s.advisory := rfl
@[simp] theorem State.setSlots_port (x : Slots) : (s.setSlots x).port = s.port := rfl
@[simp] theorem State.setSlots_link (x : Slots) : (s.setSlots x).link = s.link := rfl
@[simp] theorem State.setSlots_free (x : Slots) : (s.setSlots x).free = s.free := rfl
@[simp] theorem State.setSlots_pending (x : Slots) : (s.setSlots x).pending = s.pending := rfl

@[simp] theorem State.setAdvisory_pins (x : Advisory) : (s.setAdvisory x).pins = s.pins := rfl
@[simp] theorem State.setAdvisory_motion (x : Advisory) : (s.setAdvisory x).motion = s.motion := rfl
@[simp] theorem State.setAdvisory_capture (x : Advisory) : (s.setAdvisory x).capture = s.capture := rfl
@[simp] theorem State.setAdvisory_timebase (x : Advisory) : (s.setAdvisory x).timebase = s.timebase := rfl
@[simp] theorem State.setAdvisory_store (x : Advisory) : (s.setAdvisory x).store = s.store := rfl
@[simp] theorem State.setAdvisory_map (x : Advisory) : (s.setAdvisory x).map = s.map := rfl
@[simp] theorem State.setAdvisory_requests (x : Advisory) : (s.setAdvisory x).requests = s.requests := rfl
@[simp] theorem State.setAdvisory_render (x : Advisory) : (s.setAdvisory x).render = s.render := rfl
@[simp] theorem State.setAdvisory_slots (x : Advisory) : (s.setAdvisory x).slots = s.slots := rfl
@[simp] theorem State.setAdvisory_advisory (x : Advisory) : (s.setAdvisory x).advisory = x := rfl
@[simp] theorem State.setAdvisory_port (x : Advisory) : (s.setAdvisory x).port = s.port := rfl
@[simp] theorem State.setAdvisory_link (x : Advisory) : (s.setAdvisory x).link = s.link := rfl
@[simp] theorem State.setAdvisory_free (x : Advisory) : (s.setAdvisory x).free = s.free := rfl
@[simp] theorem State.setAdvisory_pending (x : Advisory) : (s.setAdvisory x).pending = s.pending := rfl

@[simp] theorem State.setPort_pins (x : Port) : (s.setPort x).pins = s.pins := rfl
@[simp] theorem State.setPort_motion (x : Port) : (s.setPort x).motion = s.motion := rfl
@[simp] theorem State.setPort_capture (x : Port) : (s.setPort x).capture = s.capture := rfl
@[simp] theorem State.setPort_timebase (x : Port) : (s.setPort x).timebase = s.timebase := rfl
@[simp] theorem State.setPort_store (x : Port) : (s.setPort x).store = s.store := rfl
@[simp] theorem State.setPort_map (x : Port) : (s.setPort x).map = s.map := rfl
@[simp] theorem State.setPort_requests (x : Port) : (s.setPort x).requests = s.requests := rfl
@[simp] theorem State.setPort_render (x : Port) : (s.setPort x).render = s.render := rfl
@[simp] theorem State.setPort_slots (x : Port) : (s.setPort x).slots = s.slots := rfl
@[simp] theorem State.setPort_advisory (x : Port) : (s.setPort x).advisory = s.advisory := rfl
@[simp] theorem State.setPort_port (x : Port) : (s.setPort x).port = x := rfl
@[simp] theorem State.setPort_link (x : Port) : (s.setPort x).link = s.link := rfl
@[simp] theorem State.setPort_free (x : Port) : (s.setPort x).free = s.free := rfl
@[simp] theorem State.setPort_pending (x : Port) : (s.setPort x).pending = s.pending := rfl

@[simp] theorem State.setLink_pins (x : Link) : (s.setLink x).pins = s.pins := rfl
@[simp] theorem State.setLink_motion (x : Link) : (s.setLink x).motion = s.motion := rfl
@[simp] theorem State.setLink_capture (x : Link) : (s.setLink x).capture = s.capture := rfl
@[simp] theorem State.setLink_timebase (x : Link) : (s.setLink x).timebase = s.timebase := rfl
@[simp] theorem State.setLink_store (x : Link) : (s.setLink x).store = s.store := rfl
@[simp] theorem State.setLink_map (x : Link) : (s.setLink x).map = s.map := rfl
@[simp] theorem State.setLink_requests (x : Link) : (s.setLink x).requests = s.requests := rfl
@[simp] theorem State.setLink_render (x : Link) : (s.setLink x).render = s.render := rfl
@[simp] theorem State.setLink_slots (x : Link) : (s.setLink x).slots = s.slots := rfl
@[simp] theorem State.setLink_advisory (x : Link) : (s.setLink x).advisory = s.advisory := rfl
@[simp] theorem State.setLink_port (x : Link) : (s.setLink x).port = s.port := rfl
@[simp] theorem State.setLink_link (x : Link) : (s.setLink x).link = x := rfl
@[simp] theorem State.setLink_free (x : Link) : (s.setLink x).free = s.free := rfl
@[simp] theorem State.setLink_pending (x : Link) : (s.setLink x).pending = s.pending := rfl

@[simp] theorem State.countFree_pins : s.countFree.pins = s.pins := rfl
@[simp] theorem State.countFree_motion : s.countFree.motion = s.motion := rfl
@[simp] theorem State.countFree_capture : s.countFree.capture = s.capture := rfl
@[simp] theorem State.countFree_timebase : s.countFree.timebase = s.timebase := rfl
@[simp] theorem State.countFree_store : s.countFree.store = s.store := rfl
@[simp] theorem State.countFree_map : s.countFree.map = s.map := rfl
@[simp] theorem State.countFree_requests : s.countFree.requests = s.requests := rfl
@[simp] theorem State.countFree_render : s.countFree.render = s.render := rfl
@[simp] theorem State.countFree_slots : s.countFree.slots = s.slots := rfl
@[simp] theorem State.countFree_advisory : s.countFree.advisory = s.advisory := rfl
@[simp] theorem State.countFree_port : s.countFree.port = s.port := rfl
@[simp] theorem State.countFree_link : s.countFree.link = s.link := rfl
@[simp] theorem State.countFree_free : s.countFree.free = s.free + 1 := rfl
@[simp] theorem State.countFree_pending : s.countFree.pending = s.pending := rfl

end Sys2Proof.Machine
end

