-- ==== Sys2Proof/Laws/Notices.lean ====
section
/-! SUPPORT. What posting a notice, replying and answering do, said once. -/

namespace Sys2Proof.Machine

variable (s : State)

/-- A posting to the transport changes the port alone, as R181 and R183 give. -/
theorem State.postTransport_eq (n : TransportNotice) : s.postTransport n = s.setPort (s.port.posted n) := by
  unfold State.postTransport Port.posted
  split <;> rfl

/-- A posting to the workstation changes the link alone, as R195 gives. -/
theorem State.postWork_eq (n : WorkNotice) : s.postWork n = s.setLink (s.link.posted n) := by
  unfold State.postWork Link.posted
  split <;> rfl

/-- A reply changes the port alone. -/
theorem State.reply_eq (l : List Nat) (st : Status) (b : ReplyBody) :
    s.reply l st b = s.setPort (s.port.replying l st b) := rfl

/-- An answer changes the link alone. -/
theorem State.answer_eq (k : Nat) (st : Status) (r : Result) : s.answer k st r = s.setLink (s.link.answered k st r) := rfl

/-- A refusal is an answer without result fields. -/
theorem State.refuse_eq (k : Nat) (st : Status) : s.refuse k st = s.answering k st .empty := rfl

/-- An accepted read changes the link alone. -/
theorem State.accept_eq (k : Nat) (t : ReadTarget) : s.accept k t = s.setLink (s.link.reading k t) := rfl

/-- A command taken with room in the pending list acts and settles. -/
theorem State.takeCommand_room {act : State → State} (h : s.hasRoom) : s.takeCommand act = (act s).settle := by
  unfold State.takeCommand State.listFull
  rw [decide_eq_false (show ¬Config.pendingMax ≤ s.link.commands.length by unfold State.hasRoom at h; show ¬16 ≤ _; omega)]
  rfl

/-- A command taken at a full pending list is dropped. -/
theorem State.takeCommand_full {act : State → State} (h : ¬s.hasRoom) : s.takeCommand act = s.dropFrame := by
  unfold State.takeCommand State.listFull
  rw [decide_eq_true (show Config.pendingMax ≤ s.link.commands.length by unfold State.hasRoom at h; show 16 ≤ _; omega)]
  rfl

/-- A posting keeps the line raised exactly while the FIFO holds a notice, and the FIFO within 8. -/
theorem Port.posted_sound {p : Port} (n : TransportNotice) (h : p.sound) : (p.posted n).sound := by
  unfold Port.posted
  split
  · next hl => exact ⟨by rw [List.length_append]; exact hl, by simp⟩
  · exact h

/-- A posting keeps the notice list within 32. -/
theorem Link.posted_notices {l : Link} (n : WorkNotice) (h : l.notices.length ≤ 32) : (l.posted n).notices.length ≤ 32 := by
  unfold Link.posted
  split
  · next hl => rw [List.length_append]; exact hl
  · exact h

end Sys2Proof.Machine
end

