-- ==== Sys2Proof/Laws/Receiver.lean ====
section
/-! SUPPORT. What taking bytes from the line does, said once (R186). -/

namespace Sys2Proof.Machine

/-- The state with a frame in reception. -/
def State.withFrame (s : State) (f : RxFrame) : State :=
  s.setLink { s.link with rx := { s.link.rx with frame := some f } }

@[simp] theorem State.withFrame_frame (s : State) (f : RxFrame) : (s.withFrame f).link.rx.frame = some f := rfl

@[simp] theorem State.withFrame_withFrame (s : State) (f g : RxFrame) : (s.withFrame f).withFrame g = s.withFrame g := rfl

/-- A frame that is not complete is not sorted. -/
theorem sortComplete_incomplete (s : State) (f : RxFrame) (h : f.bytes.length < f.need) :
    sortComplete (s.withFrame f) = .next (s.withFrame f) := by
  unfold sortComplete
  rw [State.withFrame_frame]
  show (if f.complete = true then _ else _) = _
  rw [if_neg]
  unfold RxFrame.complete
  rw [decide_eq_false (by omega)]
  exact Bool.false_ne_true

/-- With no frame in reception there is none to sort. -/
theorem sortComplete_none (s : State) (h : s.link.rx.frame = none) : sortComplete s = .next s := by
  unfold sortComplete
  rw [h]

/-- Bytes taken one after another: first some, then the rest. -/
theorem receive_append : ∀ (a b : List Byte) (s : State), receive (a ++ b) s =
    match receive a s with
    | .next s1 => receive b s1
    | .fault f => .fault f
    | .refused r => .refused r
  | [], _, _ => rfl
  | x :: a, b, s => by
    rw [List.cons_append, receive, receive]
    cases sortComplete s with
    | next s1 => exact receive_append a b _
    | fault f => rfl
    | refused r => rfl

/-- The bytes of a frame join it until it has all it needs. -/
theorem receive_frame : ∀ (bs : List Byte) (f : RxFrame) (s : State), f.bytes.length + bs.length ≤ f.need →
    receive bs (s.withFrame f) = .next (s.withFrame { f with bytes := f.bytes ++ bs })
  | [], f, s, _ => by rw [List.append_nil]; rfl
  | b :: bs, f, s, h => by
    rw [List.length_cons] at h
    unfold receive
    rw [sortComplete_incomplete s f (by omega)]
    show receive bs (s.withFrame { f with bytes := f.bytes ++ [b] }) = _
    have hb : (f.bytes ++ [b]).length + bs.length ≤ f.need := by
      rw [List.length_append, List.length_singleton]
      omega
    rw [receive_frame bs _ s hb, List.append_assoc]
    rfl

end Sys2Proof.Machine
end

