-- ==== Sys2Proof/Laws/Table.lean ====
section
/-! SUPPORT. Reading a table after writing it, and the canonical form kept by every table operation. -/

namespace Sys2Proof.Machine

variable {α : Type}

@[simp] theorem Table.get_nil (d : α) (k : Nat) : Table.get d [] k = d := rfl

theorem Table.get_cons (d : α) (i : Nat) (a : α) (t : Table α) (k : Nat) :
    Table.get d ((i, a) :: t) k = if i = k then a else Table.get d t k := rfl

/-- An index beyond every listed one has the unlisted value. -/
theorem Table.get_of_lt {d : α} {n k : Nat} (hk : n ≤ k) : ∀ {t : Table α}, (∀ e ∈ t, e.1 < n) → Table.get d t k = d
  | [], _ => rfl
  | (i, a) :: t, h => by
    have hi : i < n := h (i, a) (List.mem_cons_self ..)
    rw [Table.get_cons, if_neg (by omega)]
    exact Table.get_of_lt hk fun e he => h e (List.mem_cons_of_mem _ he)

variable [DecidableEq α]

/-- A canonical table from index `lo` has the unlisted value below `lo`. -/
theorem Table.get_of_wfFrom {d : α} : ∀ {t : Table α} {lo k : Nat}, Table.wfFrom d lo t = true → k < lo →
    Table.get d t k = d
  | [], _, _, _, _ => rfl
  | (i, a) :: t, lo, k, h, hk => by
    simp only [Table.wfFrom, Bool.and_eq_true, decide_eq_true_eq] at h
    have hi : i ≠ k := by omega
    rw [Table.get_cons, if_neg hi]
    exact Table.get_of_wfFrom h.2 (by omega)

theorem Table.wfFrom_mono {d : α} : ∀ {t : Table α} {lo lo' : Nat}, Table.wfFrom d lo t = true → lo' ≤ lo →
    Table.wfFrom d lo' t = true
  | [], _, _, _, _ => rfl
  | (i, a) :: t, lo, lo', h, hl => by
    simp only [Table.wfFrom, Bool.and_eq_true, decide_eq_true_eq] at h ⊢
    exact ⟨⟨by omega, h.1.2⟩, h.2⟩

theorem Table.get_put_ne {d : α} : ∀ (t : Table α) {k j : Nat} (a : α), j ≠ k →
    Table.get d (Table.put d t k a) j = Table.get d t j
  | [], k, j, a, h => by
    unfold Table.put
    split
    · rfl
    · rw [Table.get_cons, if_neg (Ne.symm h)]
  | (i, b) :: t, k, j, a, h => by
    unfold Table.put
    split
    · split
      · rfl
      · rw [Table.get_cons, if_neg (Ne.symm h)]
    · split
      · rename_i hk
        split
        · rw [Table.get_cons, if_neg (by omega)]
        · rw [Table.get_cons, Table.get_cons, if_neg (Ne.symm h), if_neg (by omega)]
      · rw [Table.get_cons, Table.get_cons, Table.get_put_ne t a h]

theorem Table.get_put_self_from {d : α} : ∀ {t : Table α} {lo : Nat} (k : Nat) (a : α), Table.wfFrom d lo t = true →
    Table.get d (Table.put d t k a) k = a
  | [], _, k, a, _ => by
    unfold Table.put
    split
    · next h => rw [h]; rfl
    · rw [Table.get_cons, if_pos rfl]
  | (i, b) :: t, lo, k, a, h => by
    simp only [Table.wfFrom, Bool.and_eq_true, decide_eq_true_eq] at h
    unfold Table.put
    split
    · split
      · next hk ha =>
        rw [Table.get_cons, if_neg (by omega), ha]
        exact Table.get_of_wfFrom h.2 (by omega)
      · rw [Table.get_cons, if_pos rfl]
    · split
      · next hk =>
        split
        · next ha => rw [ha]; exact Table.get_of_wfFrom h.2 (by omega)
        · rw [Table.get_cons, if_pos rfl]
      · next hk =>
        rw [Table.get_cons, if_neg (by omega)]
        exact Table.get_put_self_from k a h.2

/-- Reading the index just written, in a canonical table. -/
theorem Table.get_put_self {d : α} {t : Table α} (k : Nat) (a : α) (h : Table.wf d t = true) :
    Table.get d (Table.put d t k a) k = a := Table.get_put_self_from k a h

/-- Reading any index after a write, in a canonical table. -/
theorem Table.get_put {d : α} {t : Table α} (k j : Nat) (a : α) (h : Table.wf d t = true) :
    Table.get d (Table.put d t k a) j = if j = k then a else Table.get d t j := by
  split
  · next hj => rw [hj]; exact Table.get_put_self k a h
  · next hj => exact Table.get_put_ne t a hj

theorem Table.put_wfFrom {d : α} : ∀ {t : Table α} {lo : Nat} (k : Nat) (a : α), Table.wfFrom d lo t = true → lo ≤ k →
    Table.wfFrom d lo (Table.put d t k a) = true
  | [], lo, k, a, _, hk => by
    unfold Table.put
    split
    · rfl
    · next ha => simp [Table.wfFrom, hk, ha]
  | (i, b) :: t, lo, k, a, h, hk => by
    have h' := h
    simp only [Table.wfFrom, Bool.and_eq_true, decide_eq_true_eq] at h'
    obtain ⟨⟨hlo, hb⟩, ht⟩ := h'
    unfold Table.put
    split
    · next hki =>
      split
      · exact h
      · next ha =>
        simp only [Table.wfFrom, Bool.and_eq_true, decide_eq_true_eq]
        exact ⟨⟨hk, ha⟩, ⟨by omega, hb⟩, ht⟩
    · split
      · next hki =>
        split
        · exact Table.wfFrom_mono ht (by omega)
        · next ha =>
          simp only [Table.wfFrom, Bool.and_eq_true, decide_eq_true_eq]
          exact ⟨⟨hk, ha⟩, by rw [hki]; exact ht⟩
      · next hki =>
        simp only [Table.wfFrom, Bool.and_eq_true, decide_eq_true_eq]
        exact ⟨⟨hlo, hb⟩, Table.put_wfFrom k a ht (by omega)⟩

/-- A write keeps the canonical form. -/
theorem Table.put_wf {d : α} {t : Table α} (k : Nat) (a : α) (h : Table.wf d t = true) :
    Table.wf d (Table.put d t k a) = true := Table.put_wfFrom k a h (Nat.zero_le k)

theorem Table.tabulate_wfFrom (d : α) (f : Nat → α) : ∀ (n lo : Nat), Table.wfFrom d lo (Table.tabulate d f lo n) = true
  | 0, _ => rfl
  | n + 1, lo => by
    unfold Table.tabulate
    split
    · exact Table.wfFrom_mono (Table.tabulate_wfFrom d f n (lo + 1)) (Nat.le_succ lo)
    · next h =>
      simp only [Table.wfFrom, Bool.and_eq_true, decide_eq_true_eq]
      exact ⟨⟨Nat.le_refl lo, h⟩, Table.tabulate_wfFrom d f n (lo + 1)⟩

/-- A tabulated table is canonical. -/
theorem Table.tabulate_wf (d : α) (f : Nat → α) (lo n : Nat) : Table.wf d (Table.tabulate d f lo n) = true :=
  Table.wfFrom_mono (Table.tabulate_wfFrom d f n lo) (Nat.zero_le lo)

/-- The value of a tabulated table. -/
theorem Table.get_tabulate (d : α) (f : Nat → α) : ∀ (n lo k : Nat),
    Table.get d (Table.tabulate d f lo n) k = if lo ≤ k ∧ k < lo + n then f k else d
  | 0, lo, k => by
    rw [if_neg (by omega)]; rfl
  | n + 1, lo, k => by
    unfold Table.tabulate
    split
    · next h =>
      rw [Table.get_tabulate d f n (lo + 1) k]
      by_cases hk : k = lo
      · subst hk
        rw [if_neg (by omega), if_pos (by omega), h]
      · by_cases hr : lo + 1 ≤ k ∧ k < lo + 1 + n
        · rw [if_pos hr, if_pos (by omega)]
        · rw [if_neg hr, if_neg (by omega)]
    · rw [Table.get_cons, Table.get_tabulate d f n (lo + 1) k]
      by_cases hk : lo = k
      · subst hk
        rw [if_pos rfl, if_pos (by omega)]
      · rw [if_neg hk]
        by_cases hr : lo + 1 ≤ k ∧ k < lo + 1 + n
        · rw [if_pos hr, if_pos (by omega)]
        · rw [if_neg hr, if_neg (by omega)]

theorem Table.mapValues_wfFrom (d : α) (f : α → α) : ∀ {t : Table α} {lo : Nat}, Table.wfFrom d lo t = true →
    Table.wfFrom d lo (Table.mapValues d f t) = true
  | [], _, _ => rfl
  | (i, a) :: t, lo, h => by
    simp only [Table.wfFrom, Bool.and_eq_true, decide_eq_true_eq] at h
    unfold Table.mapValues
    split
    · exact Table.wfFrom_mono (Table.mapValues_wfFrom d f h.2) (by omega)
    · next hf =>
      simp only [Table.wfFrom, Bool.and_eq_true, decide_eq_true_eq]
      exact ⟨⟨h.1.1, hf⟩, Table.mapValues_wfFrom d f h.2⟩

/-- Mapping the values keeps the canonical form. -/
theorem Table.mapValues_wf (d : α) (f : α → α) {t : Table α} (h : Table.wf d t = true) :
    Table.wf d (Table.mapValues d f t) = true := Table.mapValues_wfFrom d f h

theorem Table.get_mapValues_from {d : α} {f : α → α} (hd : f d = d) : ∀ {t : Table α} {lo : Nat} (k : Nat),
    Table.wfFrom d lo t = true → Table.get d (Table.mapValues d f t) k = f (Table.get d t k)
  | [], _, k, _ => by rw [Table.mapValues, Table.get_nil, hd]
  | (i, a) :: t, lo, k, h => by
    simp only [Table.wfFrom, Bool.and_eq_true, decide_eq_true_eq] at h
    have ih := Table.get_mapValues_from hd k h.2
    unfold Table.mapValues
    split
    · next hf =>
      rw [ih, Table.get_cons]
      split
      · next hik => rw [hf, Table.get_of_wfFrom h.2 (by omega), hd]
      · rfl
    · rw [Table.get_cons, Table.get_cons, ih]
      split <;> rfl

/-- Reading a canonical table whose values have been mapped. -/
theorem Table.get_mapValues {d : α} {f : α → α} {t : Table α} (hd : f d = d) (k : Nat) (h : Table.wf d t = true) :
    Table.get d (Table.mapValues d f t) k = f (Table.get d t k) := Table.get_mapValues_from hd k h

end Sys2Proof.Machine
end

