-- ==== Sys2Proof/Laws/Segments.lean ====
section
/-! SUPPORT. Reading segments, strips and slots after an update, and the canonical form the updates keep. -/

namespace Sys2Proof.Machine

variable (s : State)

/-- The record just written, with its state set by R81. -/
theorem State.segment_setSegment_self (k : Nat) (r : Segment) (h : Table.wf Segment.blank s.map.segments = true) :
    (s.setSegment k r).segment k = r.restated := Table.get_put_self k _ h

/-- A record not written. -/
theorem State.segment_setSegment_ne {k j : Nat} (r : Segment) (h : j ≠ k) : (s.setSegment k r).segment j = s.segment j :=
  Table.get_put_ne _ _ h

/-- Writing a segment keeps the map's table canonical. -/
theorem State.setSegment_wf (k : Nat) (r : Segment) (h : Table.wf Segment.blank s.map.segments = true) :
    Table.wf Segment.blank (s.setSegment k r).map.segments = true := Table.put_wf k _ h

/-- Writing a segment changes the map alone. -/
theorem State.setSegment_eq (k : Nat) (r : Segment) : s.setSegment k r = s.setMap (s.setSegment k r).map := rfl

/-- Applying an update to a segment keeps the map's table canonical. -/
theorem State.modSegment_wf (k : Nat) (f : Segment → Segment) (h : Table.wf Segment.blank s.map.segments = true) :
    Table.wf Segment.blank (s.modSegment k f).map.segments = true := s.setSegment_wf k _ h

/-- Applying an update to a range of segments changes the map alone. -/
theorem State.modSegments_eq (f : Segment → Segment) : ∀ (n first : Nat) (s : State),
    s.modSegments f first n = s.setMap (s.modSegments f first n).map
  | 0, _, _ => rfl
  | n + 1, first, s => by
    show State.modSegments (s.modSegment first f) f (first + 1) n = _
    rw [State.modSegments_eq f n (first + 1) (s.modSegment first f)]
    rfl

/-- An update of a range keeps the map's table canonical. -/
theorem State.modSegments_wf (f : Segment → Segment) : ∀ (n first : Nat) (s : State),
    Table.wf Segment.blank s.map.segments = true → Table.wf Segment.blank (s.modSegments f first n).map.segments = true
  | 0, _, _, h => h
  | n + 1, first, s, h => State.modSegments_wf f n (first + 1) (s.modSegment first f) (s.modSegment_wf first f h)

/-- The records after an update of a range: each of the range once, no other. -/
theorem State.segment_modSegments (f : Segment → Segment) : ∀ (n first k : Nat) (s : State),
    Table.wf Segment.blank s.map.segments = true →
    (s.modSegments f first n).segment k =
      if first ≤ k ∧ k < first + n then (f (s.segment k)).restated else s.segment k
  | 0, first, k, s, _ => by rw [if_neg (by omega)]; rfl
  | n + 1, first, k, s, h => by
    show (State.modSegments (s.modSegment first f) f (first + 1) n).segment k = _
    rw [State.segment_modSegments f n (first + 1) k (s.modSegment first f) (s.modSegment_wf first f h)]
    by_cases hk : k = first
    · subst hk
      rw [if_neg (by omega), if_pos (by omega)]
      exact s.segment_setSegment_self k _ h
    · have hs : (s.modSegment first f).segment k = s.segment k := s.segment_setSegment_ne _ hk
      rw [hs]
      by_cases hr : first + 1 ≤ k ∧ k < first + 1 + n
      · rw [if_pos hr, if_pos (by omega)]
      · rw [if_neg hr, if_neg (by omega)]

/-- The strip just written. -/
theorem State.strip_setStrip_self (i : Nat) (x : Strip) (h : Table.wf Strip.blank s.store.strips = true) :
    (s.setStrip i x).strip i = x := Table.get_put_self i x h

/-- A strip not written. -/
theorem State.strip_setStrip_ne {i j : Nat} (x : Strip) (h : j ≠ i) : (s.setStrip i x).strip j = s.strip j :=
  Table.get_put_ne _ _ h

/-- Writing a strip keeps the strip table canonical. -/
theorem State.setStrip_wf (i : Nat) (x : Strip) (h : Table.wf Strip.blank s.store.strips = true) :
    Table.wf Strip.blank (s.setStrip i x).store.strips = true := Table.put_wf i x h

/-- The slot just written. -/
theorem State.slot_setSlot_self (k : Nat) (x : Slot) (h : Table.wf Slot.free s.slots.slots = true) :
    (s.setSlot k x).slot k = x := Table.get_put_self k x h

/-- A slot not written. -/
theorem State.slot_setSlot_ne {k j : Nat} (x : Slot) (h : j ≠ k) : (s.setSlot k x).slot j = s.slot j :=
  Table.get_put_ne _ _ h

/-- Writing a slot keeps the slot table canonical. -/
theorem State.setSlot_wf (k : Nat) (x : Slot) (h : Table.wf Slot.free s.slots.slots = true) :
    Table.wf Slot.free (s.setSlot k x).slots.slots = true := Table.put_wf k x h

end Sys2Proof.Machine
end

