-- ==== Sys2Proof/Laws/Settle.lean ====
section
/-! SUPPORT. What the grant and the transmitter can do, said once: `settle` only ever leads to a settled state. -/

namespace Sys2Proof.Machine

theorem StoreSettled.refl (x : Store) : StoreSettled x x := ⟨rfl, rfl, rfl, rfl, rfl, rfl, fun _ => rfl⟩

theorem RenderSettled.refl (x : Render) : RenderSettled x x := ⟨rfl, rfl, rfl⟩

theorem LinkSettled.refl (x : Link) : LinkSettled x x :=
  ⟨rfl, rfl, rfl, rfl, fun _ => ⟨rfl, rfl, rfl⟩, .inl ⟨rfl, rfl⟩⟩

theorem Settled.refl (s : State) : Settled s s :=
  ⟨rfl, rfl, rfl, rfl, .refl _, rfl, rfl, .refl _, rfl, rfl, rfl, .refl _, rfl, rfl⟩

/-- Granting the oldest read its burst changes no command but for that burst. -/
theorem answerOldest_atRest (bs : List Byte) : ∀ (l : List PendingCommand) (r : Read), oldestRead l = some r →
    (answerOldest (.reading { r with burst := some bs }) l).map PendingCommand.atRest = l.map PendingCommand.atRest
  | [], _, h => by cases h
  | ⟨k, .reading x⟩ :: l, r, h => by
    simp only [oldestRead, Option.some.injEq] at h
    subst h
    rfl
  | ⟨k, .formed x d⟩ :: l, r, h => by
    simp only [oldestRead] at h
    simp only [answerOldest, List.map_cons, answerOldest_atRest bs l r h]

theorem StoreSettled.grantWriter (s : State) (b : WriteBurst) (h : s.store.burst = none) :
    StoreSettled s.store (s.grantWriter b).store :=
  ⟨rfl, rfl, rfl, rfl, rfl, rfl, fun hb => absurd h hb⟩

theorem settled_grantWriter (s : State) (b : WriteBurst) (h : s.store.burst = none) : Settled s (s.grantWriter b) :=
  ⟨rfl, rfl, rfl, rfl, .grantWriter s b h, rfl, rfl, .refl _, rfl, rfl, rfl, .refl _, rfl, rfl⟩

theorem settled_grantRender (s : State) (h : s.store.burst = none) : Settled s s.grantRender := by
  refine ⟨rfl, rfl, rfl, rfl, ⟨rfl, rfl, rfl, rfl, rfl, rfl, fun hb => absurd h hb⟩, rfl, rfl, ⟨rfl, rfl, ?_⟩, rfl, rfl, rfl,
    .refl _, rfl, rfl⟩
  show (s.render.job.map fun j => { j with bursting := true }).map Job.atRest = _
  cases s.render.job <;> rfl

theorem settled_grantLink (s : State) (h : s.store.burst = none) : Settled s s.grantLink := by
  unfold State.grantLink
  cases hr : oldestRead s.link.commands with
  | none => exact .refl s
  | some r =>
    exact ⟨rfl, rfl, rfl, rfl, ⟨rfl, rfl, rfl, rfl, rfl, rfl, fun hb => absurd h hb⟩, rfl, rfl, .refl _, rfl, rfl, rfl,
      ⟨rfl, rfl, rfl, answerOldest_atRest _ _ _ hr, fun _ => ⟨rfl, rfl, rfl⟩, .inl ⟨rfl, rfl⟩⟩, rfl, rfl⟩

/-- The arbiter's choice settles the state (R77). -/
theorem settled_grant (s : State) : Settled s s.grant := by
  unfold State.grant
  split
  · exact .refl s
  · next h =>
    split
    · exact settled_grantWriter s _ h
    · split
      · split
        · exact settled_grantLink s h
        · exact settled_grantRender s h
      · split
        · exact settled_grantRender s h
        · split
          · exact settled_grantLink s h
          · exact .refl s

/-- The grant leaves the transmitter and the notices alone. -/
theorem grant_link (s : State) : s.grant.link.tx = s.link.tx ∧ s.grant.link.notices = s.link.notices ∧
    s.grant.link.lostNotices = s.link.lostNotices := by
  have hl : s.grantLink.link.tx = s.link.tx ∧ s.grantLink.link.notices = s.link.notices ∧
      s.grantLink.link.lostNotices = s.link.lostNotices := by
    unfold State.grantLink
    split <;> exact ⟨rfl, rfl, rfl⟩
  unfold State.grant
  split
  · exact ⟨rfl, rfl, rfl⟩
  · split
    · exact ⟨rfl, rfl, rfl⟩
    · split
      · split
        · exact hl
        · exact ⟨rfl, rfl, rfl⟩
      · split
        · exact ⟨rfl, rfl, rfl⟩
        · split
          · exact hl
          · exact ⟨rfl, rfl, rfl⟩

/-- The transmitter's choice changes only the link (R189). -/
theorem transmit_eq (s : State) : ∃ l, s.transmit = s.setLink l ∧ LinkSettled s.link l := by
  have hsame : ∃ l, s = s.setLink l ∧ LinkSettled s.link l := ⟨s.link, rfl, .refl _⟩
  unfold State.transmit
  split
  · exact hsame
  · next h =>
    split
    · exact ⟨_, rfl, rfl, rfl, rfl, rfl, fun hb => absurd h hb, .inl ⟨rfl, rfl⟩⟩
    · split
      · next n rest hn =>
        exact ⟨_, rfl, rfl, rfl, rfl, rfl, fun hb => absurd h hb, .inr ⟨rfl, n, hn, rfl⟩⟩
      · exact hsame

/-- Everything the grant and the transmitter do after an event (R76, R189). -/
theorem settled_settle (s : State) : Settled s s.settle := by
  have hg := settled_grant s
  have hn := grant_link s
  obtain ⟨l, hl, hk⟩ := transmit_eq s.grant
  unfold State.settle
  rw [hl]
  refine ⟨hg.pins, hg.motion, hg.capture, hg.timebase, hg.store, hg.map, hg.requests, hg.render, hg.slots, hg.advisory,
    hg.port, ?_, hg.free, hg.pending⟩
  refine ⟨hk.receiver.trans hg.link.receiver, hk.profile.trans hg.link.profile, hk.tallies.trans hg.link.tallies,
    hk.commands.trans hg.link.commands, fun hb => ?_, ?_⟩
  · obtain ⟨h1, h2, h3⟩ := hk.sending (by rw [hn.1]; exact hb)
    exact ⟨h1.trans hn.1, h2.trans hn.2.1, h3.trans hn.2.2⟩
  · obtain ⟨h1, h2⟩ | ⟨h1, n, h2, h3⟩ := hk.notices
    · exact .inl ⟨h1.trans hn.2.1, h2.trans hn.2.2⟩
    · exact .inr ⟨h1, n, hn.2.1.symm.trans h2, h3.trans (by rw [hn.2.2])⟩

/-- Where nobody asks an idle store, the arbiter grants nothing (R77). -/
theorem grant_of_storeServed {s : State} (h : s.storeServed) : s.grant = s := by
  unfold State.grant
  split
  · rfl
  · next hb =>
    obtain ⟨h1, h2, h3⟩ := h hb
    simp [h1, h2, h3]

/-- Where nothing waits for an idle transmitter, it sends nothing (R189). -/
theorem transmit_of_lineServed {s : State} (h : s.lineServed) : s.transmit = s := by
  unfold State.transmit
  split
  · rfl
  · next ht =>
    obtain ⟨hn, hc⟩ := h ht
    split
    · next r d l hl =>
      obtain ⟨x, hx⟩ := hc _ (by rw [hl]; rfl)
      cases hx
    · simp [hn]

/-- Whether the store is served depends on the store, the renders and the pending list alone. -/
theorem storeServed_congr {s t : State} (hs : t.store = s.store) (hr : t.render = s.render)
    (hc : t.link.commands = s.link.commands) (h : s.storeServed) : t.storeServed := by
  have strip : ∀ i, t.strip i = s.strip i := fun i => by simp [State.strip, hs]
  have writer : t.writerRequest = s.writerRequest := by simp [State.writerRequest, State.frameBurst, hs, strip]
  have render : t.renderWants = s.renderWants := by simp [State.renderWants, hr, State.readable, strip]
  have link : t.linkWants = s.linkWants := by
    simp [State.linkWants, hc, State.targetReadable, State.readable, strip]
  unfold State.storeServed
  rw [writer, render, link, hs]
  exact h

/-- Whether the line is served depends on the transmitter, the notices and the pending list alone. -/
theorem lineServed_congr {s t : State} (ht : t.link.tx = s.link.tx) (hn : t.link.notices = s.link.notices)
    (hc : t.link.commands = s.link.commands) (h : s.lineServed) : t.lineServed := by
  unfold State.lineServed
  rw [ht, hn, hc]
  exact h

/-- A state that is served is settled already. -/
theorem settle_of_served {s : State} (hs : s.storeServed) (hl : s.lineServed) : s.settle = s := by
  rw [State.settle, grant_of_storeServed hs, transmit_of_lineServed hl]

/-- A command whose meaning settles `u` completes with `u`. -/
theorem completes_of_settle {c : Instr} {s u : State} (h : exec c s = .next u.settle) : Completes c s u :=
  ⟨_, h, settled_settle u, fun _ _ => rfl⟩

/-- A command whose meaning is exactly `u` completes with `u`, where it leaves the store and the line served. -/
theorem completes_of_next {c : Instr} {s u : State} (h : exec c s = .next u)
    (hu : s.storeServed → s.lineServed → u.storeServed ∧ u.lineServed) : Completes c s u :=
  ⟨u, h, .refl u, fun hs hl => (settle_of_served (hu hs hl).1 (hu hs hl).2).symm⟩

end Sys2Proof.Machine
end

