-- ==== Sys2Proof/Tests/Slice0.lean ====
section
/-! SUPPORT. Tests: ill-formed commands refused, the reference's worked figures, and for each statement with hypotheses a
state and operands that meet them. -/

namespace Sys2Proof.Tests

open Sys2Proof Sys2Proof.Machine

/-! ## Well-formedness: each check refuses an ill-formed term -/

theorem test_wf_port_arguments : [Instr.motion 256 .opaqueTape, .abandon 256, .unknownCommand 3, .unknownCommand 256,
    .transactionDiscarded [1#8]].map Instr.wellFormed = List.replicate 5 false := by decide

theorem test_wf_link_bytes : [Instr.linkHeader [], .linkHeader (List.replicate 5 0#8), .profileLoad []].map
    Instr.wellFormed = List.replicate 3 false := by decide

theorem test_wf_frame_too_long : (Instr.linkFrame (List.replicate 65538 0#8)).wellFormed = false := by
  rw [Instr.wellFormed, List.length_replicate]
  rfl

theorem test_wf_first_fields : [Instr.mapRead 65536 1, .excludePass 65536 1, .includePass 65536 1, .setHazard 65536 1 1,
    .clearHazard 65536 1, .setSplice 65536 1, .clearSplice 65536, .keep 65536 1, .unkeep 65536 1, .requestAppend 65536 1,
    .requestCancel 256, .render 65536 1, .slotRead 256 1, .fetchRendition 256 1 1, .slotRelease 65536, .stripRead 65536,
    .fetchRaw 65536 1 1 1].map Instr.wellFormed = List.replicate 17 false := by decide

theorem test_wf_later_fields : [Instr.mapRead 1 256, .excludePass 1 65536, .includePass 1 65536, .setHazard 1 65536 1,
    .setHazard 1 1 65536, .clearHazard 1 65536, .setSplice 1 65536, .keep 1 65536, .unkeep 1 65536,
    .requestAppend 1 65536, .render 1 256, .slotRead 1 256, .fetchRendition 1 16777216 1, .fetchRendition 1 1 65536,
    .fetchRaw 1 256 1 1, .fetchRaw 1 1 16777216 1, .fetchRaw 1 1 1 65536].map Instr.wellFormed =
    List.replicate 17 false := by decide

theorem test_wf_accepts : [Instr.motion 255 .opaqueTape, .unknownCommand 8, .transactionDiscarded [4#8],
    .setHazard 65535 0 65535, .fetchRendition 255 16777215 65535, .profileLoad (List.replicate 52 0#8)].map
    Instr.wellFormed = List.replicate 6 true := by decide

/-! ## No row of the operations table has bits -/

theorem test_no_word_spells_a_command : decodeTableWord 8 5 = none ∧ State.reset.withFetchWord 8 5 = State.reset := by
  decide

/-! ## Figures worked by hand from the formulas of the reference, or given in it -/

/-- R202: the header of channel 0, kind 5, field 3. -/
theorem test_header_bytes : headerBytes 0 5 3 = [5#8, 3#8, 0#8, 6#8] := by decide

/-- R202: the same header with 01h in its second byte is corrected. -/
theorem test_header_corrected : classifyHeader (5 + 256 * 1) 6 = .corrected (5 + 256 * 3) := by decide

/-- R203: the CRC of no bytes is FFFFh, that of one zero byte FD02h. -/
theorem test_crc : crc [] = 65535#16 ∧ crc [0#8] = 64770#16 := by decide

/-- R46: the tach length at the default, the lowest and the highest nominal speed. -/
theorem test_tach_length : tachLength 47625 = 422733002 ∧ tachLength 30000 = 671088640 ∧ tachLength 100000 = 201326592 := by
  decide

/-- R47: residue lengths at a bias of 105,000 Hz. -/
theorem test_residue_length : residueLength 7055 105000 = 422725925 ∧ residueLength 6985 105000 = 418531621 ∧
    residueLength 6500 105000 = 389471086 := by decide

/-- R48: the lock window of 61/1024 about the default tach length. -/
theorem test_lock_window : inWindow 422725925 422733002 61 = true ∧ inWindow 389471086 422733002 61 = false := by decide

/-- R143, and the worked cell 40 of chapter 7: sample 3 of a crossfade from 2,000 to 1,000. -/
theorem test_crossfade : crossfade 2000 1000 3 = 1625 := by decide

/-- R138: the refinement from sums 5,200, 4,100 and 4,700. -/
theorem test_parabola : parabola 5200 4100 4700 = 38 := by decide

/-- R169: target speeds of the default table. -/
theorem test_target_speed : [85, 150, 224, 255, 0].map
    (fun x => targetSpeed true x Profile.default.advisory.points) = [917, 681, 473, 400, 1000] := by decide

/-- R2: a position of −1 lies in no segment; 16,383 lies in segment 31, span 15. -/
theorem test_segment_of_position : segmentOf (-1) = none ∧ segmentOf 16383 = some 31 ∧ spanOf 16383 = some 15 := by decide

/-- R20: the magnitude of the most negative sample. -/
theorem test_magnitude : magnitude (signed24 8388608) = 8388608 := by decide

/-- R35: a level of 524,288 falls by an eighth of the difference, discarding the fraction, and stops at the floor. -/
theorem test_reference_level : renewLevel 524288 4096 1000 = 458877 ∧ renewLevel 4097 4096 0 = 4096 := by decide

/-- R199: 06h goes out 0, 1, 1, 0, … on the link, and A0h 1, 0, 1, 0, … on the transport port. -/
theorem test_bit_order : (lsbFirst 6#8).take 4 = [false, true, true, false] ∧
    (msbFirst 160#8).take 4 = [true, false, true, false] ∧ serialBytes (msbFirst 160#8) = [160#8] := by decide

/-- R206: 02h with an argument of 3 is MOTION REVERSE_PLAY, once the argument is there; 04h alone is discarded (R176). -/
theorem test_transaction_bytes : transactionCommand .opaqueTape [2#8] = none ∧
    transactionCommand .opaqueTape [2#8, 3#8, 9#8] = some (.motion 3 .opaqueTape) ∧
    transactionEvent .opaqueTape [4#8] = .transactionDiscarded [4#8] := by decide

/-- R20, R32: cell 4,095 follows cell 4,094 and is the last. -/
theorem test_last_cell : nextCell 4094 = some (Cell.start 4095) ∧ nextCell 4095 = none := by decide

/-! ## States the witnesses use -/

/-- An entry of quality 15 everywhere. -/
def fields : EntryFields := ⟨List.replicate 16 .valid, true, Quad.fill 15, ⟨16, 16⟩, false, false, false, false⟩

/-- A descriptor of an ended strip under the default profile. -/
def descriptor : Descriptor :=
  ⟨Profile.default.timebase, 422733002, Profile.default.capture, false, true, none, none⟩

/-- A stored frame. -/
def frame : StoredFrame := ⟨Oct.fill 1, 0#8⟩

/-- Strip 0, holding pass 1 of segment 1. -/
def strip0 : Strip := ⟨.held, some (1, 1), some descriptor, [], [], [frame, frame]⟩

/-- Segment 1, holding pass 1 in strip 0. -/
def segment1 : Segment := { Segment.blank with state := .held, entries := [⟨1, 0, some fields⟩], hazard := some 0 }

/-- A part under STOP at position 600, SYNCED and ARMED, that holds pass 1 of segment 1. -/
def held : State :=
  { State.reset with
    motion := { State.reset.motion with mode := .stop, sync := .synced, position := 600, lastDir := some .forward }
    capture := { State.reset.capture with inputWait := false, lastResidue := some (Quad.fill 7#16) }
    store := { State.reset.store with strips := [(0, strip0)], ringPointer := 1 }
    map := { State.reset.map with
      segments := [(1, segment1)], session := .armed, passCounter := 1, counts := ⟨4095, 0, 1, 0⟩ } }

/-- Strip 1 as pass 2 records segment 1 into it. -/
def strip1 : Strip :=
  ⟨.opened, some (1, 2), some { descriptor with ended := false }, List.replicate 16 SpanRecord.fresh, [], []⟩

/-- `held` with one request, of id 1, live in a state, and id 2 ended. -/
def withRequest (st : RequestState) : State :=
  { held with
    requests := ⟨[⟨1, 40, 42, 40, st⟩], if st = .taken then some 120000 else none, none, [(1, .live), (2, .ended)], 2⟩ }

/-- A span in progress. -/
def span : SpanCount :=
  ⟨1, 3, true, 0, 0, Quad.fill 7#16, Oct.fill 0, Oct.fill 0, 0, Oct.fill 0, Quad.fill 524288, false, none, Oct.fill 0⟩

/-- Pass 2 open in segment 1, at position 608, recording into strip 1, with one request live in a state. -/
def recording (st : RequestState) : State :=
  let s := withRequest st
  { s with
    motion := { s.motion with mode := .play, position := 608, high := some ⟨608, 640⟩, run := some ⟨some (1, 1)⟩ }
    capture := { s.capture with
      pass := some ⟨2, some ⟨1, 1⟩, 1⟩, span := some span, cell := some ⟨0, 0, Oct.fill 0⟩, inputTimer := true }
    timebase := some (startTimebase Profile.default.timebase)
    store := { s.store with
      strips := [(0, strip0), (1, strip1)] }
    map := { s.map with
      segments := [(1, { segment1 with state := .opened, entries := [⟨1, 0, some fields⟩, ⟨2, 1, none⟩] })]
      passCounter := 2, counts := ⟨4095, 1, 0, 0⟩ }
    pending := [.tachometerPulse .forward .opaqueTape] }

/-- A slot's record. -/
def slotHead : SlotHead := ⟨1, .A, 0, 2⟩

/-- `held` with a rendition of segment 1, side A, in slot 0, and a FILLING slot 1. -/
def rendered : State :=
  { held with
    slots := ⟨[(0, .ready slotHead ⟨0, 0, 0, false⟩ [(1, 1), (2, 2)]), (1, .filling slotHead [])], [0]⟩ }

/-- `held` with a rendition of segment 1, side A, in slot 0, which the segment's record names. Its segment has changed since
its take: the slot is stale. -/
def ready : State :=
  { held with
    map := { held.map with
      segments := [(1, { segment1 with changes := 1, rendition := ⟨⟨some 0, some 0⟩, ⟨none, none⟩⟩ })] }
    slots := ⟨[(0, .ready slotHead ⟨0, 0, 0, false⟩ [(1, 1), (2, 2)])], [0]⟩
    pending := [.mapSummary] }

/-- `held` with every slot READY, slot k for side A of segment k + 40, and slot 5 fetched or not. -/
def occupied (fetched : Bool) : State :=
  { held with
    map := { held.map with
      segments := (1, segment1) :: (List.range 32).map fun k =>
        (k + 40, { Segment.blank with rendition := ⟨⟨some k, some 0⟩, ⟨none, none⟩⟩ }) }
    slots := ⟨(List.range 32).map fun k =>
      (k, .ready ⟨k + 40, .A, 0, 2⟩ ⟨0, 0, 0, fetched && decide (k = 5)⟩ []), List.range 32⟩ }

/-- A job for segment 1, side B, in slot 1, that has read everything but `strips`. -/
def job (strips : List Nat) : Job :=
  ⟨1, .B, true, 1, 0, .holdBest, [], 1, [], ⟨none, 0⟩, ⟨none, 0⟩, 0, strips, 0, 0, [(1, 1)], true⟩

/-- A part with every list at its capacity, its tallies at their ends, and a command waiting. -/
def full : State :=
  { held with
    port := { held.port with fifo := List.replicate 8 .mapStale, attention := true }
    capture := { held.capture with tallies := Oct.fill 65535 }
    requests := { held.requests with queue := List.replicate 16 ⟨1, 40, 42, 40, .queued⟩ }
    render := { held.render with queue := List.replicate 8 ⟨1, .A, true⟩ }
    link := { held.link with
      notices := List.replicate 32 .restarted, commands := List.replicate 16 ⟨2, .formed ⟨2, .ok, .empty⟩ none⟩
      lostNotices := 65535, tallies := ⟨65535, 65535, 65535, 65535, 65535, 65535, 65535, 65535⟩ }
    pending := [.mapSummary] }

/-! ## The invariants hold of the states used -/

theorem held_canonical : held.canonical := ⟨by decide, by decide, by decide, by decide⟩

theorem recording_canonical (st : RequestState) : (recording st).canonical := by
  cases st <;> exact ⟨by decide, by decide, by decide, by decide⟩

theorem rendered_canonical : rendered.canonical := ⟨by decide, by decide, by decide, by decide⟩

theorem idState_requests (st : RequestState) (id : Nat) :
    (withRequest st).idState id = if id = 1 then .live else if id = 2 then .ended else .neverIssued := by
  show Table.get IdState.neverIssued [(1, .live), (2, .ended)] id = _
  simp only [Table.get_cons, Table.get_nil, eq_comm]

theorem withRequest_sound (st : RequestState) : (withRequest st).requestsSound where
  distinct := by cases st <;> decide
  live := by
    intro id
    rw [idState_requests]
    show _ ↔ id ∈ [1]
    by_cases h1 : id = 1 <;> by_cases h2 : id = 2 <;> simp [h1, h2]
  ids := by cases st <;> decide
  issued := by cases st <;> decide
  ranges := by cases st <;> decide
  oneTaken := by cases st <;> decide
  timer := by cases st <;> decide
  room := by cases st <;> decide
  table := by cases st <;> decide

theorem recording_sound (st : RequestState) : (recording st).requestsSound :=
  let h := withRequest_sound st
  ⟨h.distinct, h.live, h.ids, h.issued, h.ranges, h.oneTaken, h.timer, h.room, h.table⟩

theorem held_requests : held.requestsSound where
  distinct := by decide
  live := fun id => ⟨fun h => absurd (h : IdState.neverIssued = .live) nofun, fun h => absurd h List.not_mem_nil⟩
  ids := by decide
  issued := by decide
  ranges := by decide
  oneTaken := by decide
  timer := by decide
  room := by decide
  table := by decide

/-- The strip that segment 1 has in `held`. -/
theorem held_strip (i : Nat) : held.strip i = if i = 0 then strip0 else Strip.blank := by
  show Table.get Strip.blank [(0, strip0)] i = _
  simp only [Table.get_cons, Table.get_nil, eq_comm]

theorem held_segment (g : Nat) : held.segment g = if g = 1 then segment1 else Segment.blank := by
  show Table.get Segment.blank [(1, segment1)] g = _
  simp only [Table.get_cons, Table.get_nil, eq_comm]

theorem recording_strip (st : RequestState) (i : Nat) :
    (recording st).strip i = if i = 0 then strip0 else if i = 1 then strip1 else Strip.blank := by
  show Table.get Strip.blank [(0, strip0), (1, strip1)] i = _
  simp only [Table.get_cons, Table.get_nil, eq_comm]

/-- The segments in a state, where only segment 1 has a record of its own. -/
theorem segmentsIn_one {s : State} {r : Segment} (h : ∀ g, s.segment g = if g = 1 then r else Segment.blank)
    (x : SegState) : s.segmentsIn x =
      if r.state = x then (if .unseen = x then 4096 else 1) else (if .unseen = x then 4095 else 0) := by
  have hf : (fun g => decide ((s.segment g).state = x)) =
      fun g => if g = 1 then decide (r.state = x) else decide (SegState.unseen = x) := by
    funext g
    rw [h]
    split <;> rfl
  show ((List.range 4096).filter fun g => decide ((s.segment g).state = x)).length = _
  rw [hf]
  split
  · next hr =>
    rw [decide_eq_true hr]
    split
    · next hx => rw [decide_eq_true hx]; decide +kernel
    · next hx => rw [decide_eq_false hx]; decide +kernel
  · next hr =>
    rw [decide_eq_false hr]
    split
    · next hx => rw [decide_eq_true hx]; decide +kernel
    · next hx => rw [decide_eq_false hx]; decide +kernel

/-- With no segment kept nothing is charged. -/
theorem kept_of_none {s : State} (h : ∀ g, (s.segment g).keep = false) (h0 : s.store.keptSegments = 0)
    (h1 : s.store.keptStrips = 0) : s.keptSound where
  segments := by
    rw [h0, List.filter_eq_nil_iff.mpr fun g _ => by rw [h]; exact nofun]
    rfl
  strips := by
    rw [h1, List.filter_eq_nil_iff.mpr]
    · rfl
    · simp [h]
  charge := by rw [h0]; exact Nat.zero_le _

/-- Segment 1 while pass 2 is open in it. -/
def segmentOpen : Segment := { segment1 with state := .opened, entries := [⟨1, 0, some fields⟩, ⟨2, 1, none⟩] }

theorem recording_segment (st : RequestState) (g : Nat) :
    (recording st).segment g = if g = 1 then segmentOpen else Segment.blank := by
  show Table.get Segment.blank [(1, segmentOpen)] g = _
  simp only [Table.get_cons, Table.get_nil, eq_comm]

/-- With no pass open the pass invariant speaks of the run alone. -/
theorem passSound_of_idle {s : State} (hp : s.capture.pass = none) (hh : s.motion.high = none) (ht : s.timebase = none)
    (hr : s.motion.run.isSome = true ↔ (s.motion.mode = .play ∨ s.motion.mode = .reversePlay) ∧ s.motion.sync = .synced) :
    s.passSound where
  high := by rw [hp, hh]; rfl
  timebase := by rw [hp, ht]; rfl
  playing := fun h => by rw [hp] at h; exact absurd h nofun
  armed := fun h => by rw [hp] at h; exact absurd h nofun
  synced := fun h => by rw [hp] at h; exact absurd h nofun
  entered := fun p h => by rw [hp] at h; exact absurd h nofun
  run := hr
  placed := fun h hs => by rw [hh] at hs; exact absurd hs nofun
  belowEnd := fun h e hs => by rw [hh] at hs; exact absurd hs nofun

theorem recording_pass (st : RequestState) : (recording st).passSound where
  high := by cases st <;> decide
  timebase := by cases st <;> decide
  playing := by cases st <;> decide
  armed := by cases st <;> decide
  synced := by cases st <;> decide
  entered := fun p hp => by cases hp; rfl
  run := by cases st <;> decide
  placed := fun h hs => by cases hs; exact (by decide : (0 : Int) ≤ 608 ∧ (608 : Int) ≤ 608 ∧ (608 : Int) < 640 ∧
    (640 : Int) % 32 = 0 ∧ (640 : Int) ≤ 2097152)
  belowEnd := fun h e _ he => absurd (he : none = some e) nofun

theorem recording_states (st : RequestState) : (recording st).segmentStatesSound where
  state := by
    intro g
    unfold State.stateByTable
    rw [recording_segment]
    by_cases h : g = 1
    · rw [if_pos h, if_pos ⟨⟨2, 1, none⟩, by decide, by rw [recording_strip]; rfl⟩]
      rfl
    · rw [if_neg h, if_neg (by rintro ⟨e, he, -⟩; exact absurd he (List.not_mem_nil))]
      rfl
  counts := by
    simp only [segmentsIn_one (recording_segment st)]
    rfl

theorem recording_store (st : RequestState) : (recording st).storeSound where
  count := .inl rfl
  pointer := (by decide : 1 < 256)
  range := by
    intro i hi
    have h : 256 ≤ i := hi
    rw [recording_strip, if_neg (by omega), if_neg (by omega)]
    rfl
  vacant := by
    intro i
    rw [recording_strip]
    split
    · decide
    · split
      · decide
      · exact fun _ => rfl
  named := by
    intro i
    rw [recording_strip]
    split
    · next h => exact fun _ => ⟨1, ⟨1, 0, some fields⟩, by rw [recording_segment]; decide, h.symm, rfl⟩
    · split
      · next h => exact fun _ => ⟨1, ⟨2, 1, none⟩, by rw [recording_segment]; decide, h.symm, rfl⟩
      · exact fun h => absurd rfl h
  names := by
    intro g e he
    rw [recording_segment] at he
    split at he
    · next h =>
      subst h
      rw [recording_strip]
      revert e
      decide
    · exact absurd he (List.not_mem_nil)
  four := by
    intro g
    rw [recording_segment]
    split <;> decide
  ascending := by
    intro g
    rw [recording_segment]
    split <;> decide
  issued := by
    intro g e he
    rw [recording_segment] at he
    split at he
    · revert e
      show ∀ e ∈ segmentOpen.entries, e.pass ≤ 2
      decide
    · exact absurd he (List.not_mem_nil)
  limit := (by decide : 2 ≤ 65535)
  inMap := by
    intro g hg
    rw [recording_segment, if_neg (by omega)]
  opened := by
    intro i
    constructor
    · intro h
      rw [recording_strip] at h
      refine ⟨⟨2, some ⟨1, 1⟩, 1⟩, ⟨1, 1⟩, rfl, rfl, ?_⟩
      by_cases h1 : i = 1
      · exact h1.symm
      · rw [if_neg h1] at h
        split at h <;> exact absurd h (by decide)
    · rintro ⟨p, en, hp, he, rfl⟩
      cases hp
      cases he
      rw [recording_strip]
      rfl
  placed := by
    intro p hp
    cases hp
    refine ⟨⟨1, 1⟩, ⟨608, 640⟩, rfl, rfl, rfl, by decide, rfl, by rw [recording_strip]; rfl, by decide, by decide, by decide,
      ?_⟩
    intro g hg e he
    rw [recording_segment, if_neg (by have h : 1 < g := hg; omega)] at he
    exact absurd he (List.not_mem_nil)

theorem recording_kept (st : RequestState) : (recording st).keptSound :=
  kept_of_none (fun g => by rw [recording_segment]; split <;> rfl) rfl rfl

theorem recording_slot (st : RequestState) (k : Nat) : (recording st).slot k = .free := rfl

theorem recording_slots (st : RequestState) : (recording st).slotsSound where
  range := fun _ _ => rfl
  distinct := List.nodup_nil
  completion := fun k => ⟨fun h => absurd h List.not_mem_nil, fun ⟨_, _, _, h⟩ => absurd h nofun⟩
  filling := fun k h d hk => absurd (hk : Slot.free = _) nofun
  job := fun j hj => absurd (hj : none = _) nofun
  single := fun k l h h' r r' d d' hk => absurd (hk : Slot.free = _) nofun
  fields := by
    intro g sd k
    refine ⟨fun h => ?_, fun ⟨h, r, d, hk, _⟩ => absurd (hk : Slot.free = _) nofun⟩
    rw [recording_segment] at h
    split at h <;> cases sd <;> exact absurd h nofun
  waiting := fun h => absurd (h : false = true) nofun
  idle := fun _ h => absurd rfl h
  behind := fun k h hk => absurd (hk : none = _) nofun
  inMap := fun k h hk => absurd (hk : none = _) nofun
  queued := fun j hj => absurd hj List.not_mem_nil

theorem recording_all (st : RequestState) : (recording st).sound :=
  ⟨recording_canonical st, recording_sound st, recording_pass st, recording_states st, recording_store st, recording_kept st,
    recording_slots st⟩

theorem ready_slot (k : Nat) :
    ready.slot k = if k = 0 then .ready slotHead ⟨0, 0, 0, false⟩ [(1, 1), (2, 2)] else .free := by
  show Table.get Slot.free [(0, .ready slotHead ⟨0, 0, 0, false⟩ [(1, 1), (2, 2)])] k = _
  simp only [Table.get_cons, Table.get_nil, eq_comm]

/-- Segment 1 of `ready`. -/
def segmentReady : Segment := { segment1 with changes := 1, rendition := ⟨⟨some 0, some 0⟩, ⟨none, none⟩⟩ }

theorem ready_segment (g : Nat) : ready.segment g = if g = 1 then segmentReady else Segment.blank := by
  show Table.get Segment.blank [(1, segmentReady)] g = _
  simp only [Table.get_cons, Table.get_nil, eq_comm]

theorem ready_strip (i : Nat) : ready.strip i = if i = 0 then strip0 else Strip.blank := held_strip i

theorem ready_store : ready.storeSound where
  count := .inl rfl
  pointer := (by decide : 1 < 256)
  range := by
    intro i hi
    have h : 256 ≤ i := hi
    rw [ready_strip, if_neg (by omega)]
    rfl
  vacant := by
    intro i
    rw [ready_strip]
    split
    · decide
    · exact fun _ => rfl
  named := by
    intro i
    rw [ready_strip]
    split
    · next h => exact fun _ => ⟨1, ⟨1, 0, some fields⟩, by rw [ready_segment]; decide, h.symm, rfl⟩
    · exact fun h => absurd rfl h
  names := by
    intro g e he
    rw [ready_segment] at he
    split at he
    · next h =>
      subst h
      rw [ready_strip]
      revert e
      decide
    · exact absurd he (List.not_mem_nil)
  four := by
    intro g
    rw [ready_segment]
    split <;> decide
  ascending := by
    intro g
    rw [ready_segment]
    split <;> decide
  issued := by
    intro g e he
    rw [ready_segment] at he
    split at he
    · revert e
      show ∀ e ∈ segmentReady.entries, e.pass ≤ 1
      decide
    · exact absurd he (List.not_mem_nil)
  limit := (by decide : 1 ≤ 65535)
  inMap := by
    intro g hg
    rw [ready_segment, if_neg (by omega)]
  opened := by
    intro i
    refine ⟨fun h => ?_, fun ⟨p, _, hp, _⟩ => absurd (hp : none = _) nofun⟩
    rw [ready_strip] at h
    split at h <;> exact absurd h (by decide)
  placed := fun p hp => absurd (hp : none = _) nofun

theorem ready_slots : ready.slotsSound where
  range := by
    intro k hk
    rw [ready_slot, if_neg (by omega)]
  distinct := (by decide : [0].Nodup)
  completion := by
    intro k
    rw [ready_slot]
    show k ∈ [0] ↔ _
    by_cases h : k = 0 <;> simp [h]
  filling := by
    intro k h d hk
    rw [ready_slot] at hk
    split at hk <;> exact absurd hk nofun
  job := fun j hj => absurd (hj : none = _) nofun
  single := by
    intro k l h h' r r' d d' hk hl _ _
    rw [ready_slot] at hk hl
    split at hk
    · split at hl
      · next h1 h2 => exact h1.trans h2.symm
      · exact absurd hl nofun
    · exact absurd hk nofun
  fields := by
    intro g sd k
    rw [ready_segment, ready_slot]
    by_cases hg : g = 1 <;> by_cases hk : k = 0 <;> cases sd <;>
      simp [hg, hk, segmentReady, Segment.blank, PerSide.get, slotHead, eq_comm]
  waiting := fun h => absurd (h : false = true) nofun
  idle := fun _ h => absurd rfl h
  behind := by
    intro k h hk
    rw [ready_slot] at hk
    split at hk
    · cases hk
      decide
    · exact absurd hk nofun
  inMap := by
    intro k h hk
    rw [ready_slot] at hk
    split at hk
    · cases hk
      decide
    · exact absurd hk nofun
  queued := fun j hj => absurd hj List.not_mem_nil

theorem ready_canonical : ready.canonical := ⟨by decide, by decide, by decide, by decide⟩

theorem ready_all : ready.sound where
  tables := ready_canonical
  requests := ⟨held_requests.distinct, held_requests.live, held_requests.ids, held_requests.issued, held_requests.ranges,
    held_requests.oneTaken, held_requests.timer, held_requests.room, held_requests.table⟩
  pass := passSound_of_idle rfl rfl rfl (by decide)
  segments := by
    refine ⟨fun g => ?_, by simp only [segmentsIn_one ready_segment]; rfl⟩
    unfold State.stateByTable
    rw [ready_segment]
    by_cases h : g = 1
    · rw [if_pos h, if_neg (by
        rintro ⟨e, he, hs⟩
        rw [ready_strip] at hs
        split at hs <;> exact absurd hs (by decide)), if_pos (by decide)]
      rfl
    · rw [if_neg h, if_neg (by rintro ⟨e, he, -⟩; exact absurd he (List.not_mem_nil))]
      rfl
  store := ready_store
  kept := kept_of_none (fun g => by rw [ready_segment]; split <;> rfl) rfl rfl
  slots := ready_slots

/-- A slot of `occupied`. -/
def occupiedSlot (fetched : Bool) (k : Nat) : Slot :=
  .ready ⟨k + 40, .A, 0, 2⟩ ⟨0, 0, 0, fetched && decide (k = 5)⟩ []

theorem occupied_slot (fetched : Bool) (k : Nat) :
    (occupied fetched).slot k = if k < 32 then occupiedSlot fetched k else .free := by
  by_cases h : k < 32
  · rw [if_pos h]
    exact (by cases fetched <;> decide : ∀ k < 32, (occupied fetched).slot k = occupiedSlot fetched k) k h
  · rw [if_neg h]
    refine Table.get_of_lt (n := 32) (by omega) fun e he => ?_
    simp only [occupied, List.mem_map, List.mem_range] at he
    obtain ⟨i, hi, rfl⟩ := he
    exact hi

theorem occupied_rendition (fetched : Bool) (g : Nat) (sd : Side) :
    (((occupied fetched).segment g).rendition.get sd).slot =
      if sd = .A ∧ 40 ≤ g ∧ g < 72 then some (g - 40) else none := by
  by_cases h : g < 72
  · exact (by cases fetched <;> cases sd <;> decide : ∀ g < 72,
      (((occupied fetched).segment g).rendition.get sd).slot = if sd = .A ∧ 40 ≤ g ∧ g < 72 then some (g - 40) else none)
      g h
  · rw [if_neg (by omega)]
    have hb : (occupied fetched).segment g = Segment.blank := by
      refine Table.get_of_lt (n := 72) (by omega) fun e he => ?_
      simp only [occupied, List.mem_cons, List.mem_map, List.mem_range] at he
      obtain rfl | ⟨i, hi, rfl⟩ := he
      · decide
      · show i + 40 < 72
        omega
    rw [hb]
    cases sd <;> rfl

theorem occupied_slots (fetched : Bool) : (occupied fetched).slotsSound where
  range := fun k hk => by rw [occupied_slot, if_neg (by omega)]
  distinct := List.nodup_range
  completion := by
    intro k
    show k ∈ List.range 32 ↔ _
    rw [List.mem_range, occupied_slot]
    by_cases h : k < 32 <;> simp [h, occupiedSlot]
  filling := by
    intro k h d hk
    rw [occupied_slot] at hk
    split at hk <;> exact absurd hk nofun
  job := fun j hj => absurd (hj : none = _) nofun
  single := by
    intro k l h h' r r' d d' hk hl hs _
    rw [occupied_slot] at hk hl
    split at hk
    · split at hl
      · cases hk
        cases hl
        simp only at hs
        omega
      · exact absurd hl nofun
    · exact absurd hk nofun
  fields := by
    intro g sd k
    rw [occupied_rendition, occupied_slot]
    constructor
    · intro h
      split at h
      · next hc =>
        cases h
        rw [if_pos (by omega)]
        exact ⟨_, _, _, rfl, by show g - 40 + 40 = g; omega, hc.1.symm⟩
      · exact absurd h nofun
    · rintro ⟨h, r, d, hk, rfl, rfl⟩
      split at hk
      · cases hk
        rw [if_pos ⟨rfl, by show 40 ≤ k + 40; omega, by show k + 40 < 72; omega⟩]
        show some (k + 40 - 40) = some k
        rw [Nat.add_sub_cancel]
      · exact absurd hk nofun
  waiting := fun h => absurd (h : false = true) nofun
  idle := fun _ h => absurd rfl h
  behind := by
    intro k h hk
    rw [occupied_slot] at hk
    split at hk
    · cases hk
      exact Nat.zero_le _
    · exact absurd hk nofun
  inMap := by
    intro k h hk
    rw [occupied_slot] at hk
    split at hk
    · cases hk
      show k + 40 < 4096
      omega
    · exact absurd hk nofun
  queued := fun j hj => absurd hj List.not_mem_nil

/-- `occupied` with no slot fetched and a job waiting at the head. -/
def waiting : State := { occupied false with render := ⟨[⟨1, .B, true⟩], true, none⟩ }

theorem waiting_slots : waiting.slotsSound where
  toslotsAgree :=
    let h := (occupied_slots false).toslotsAgree
    ⟨h.range, h.distinct, h.completion, h.single, h.fields⟩
  filling := fun k h d hk => absurd ((occupied_slots false).filling k h d hk) (by rintro ⟨j, hj, -⟩; exact absurd hj nofun)
  job := fun j hj => absurd (hj : none = _) nofun
  waiting := fun _ => ⟨rfl, _, _, rfl, fun k hk => ⟨⟨k + 40, .A, 0, 2⟩, ⟨0, 0, 0, false⟩, [], by
    show (occupied false).slot k = _
    rw [occupied_slot, if_pos hk]
    rfl, rfl, fun h => absurd h.2 nofun⟩⟩
  idle := fun _ _ => rfl
  behind := (occupied_slots false).behind
  inMap := (occupied_slots false).inMap
  queued := by decide

/-- R154: after 4,294,967,296 changes of its segment a slot holds the segment's version again, and is still stale. -/
theorem test_version_wraps :
    let s : State := { ready with map := { ready.map with segments := [(1, { segmentReady with changes := 4294967296 })] } }
    slotHead.version = (s.segment 1).version ∧ s.isCurrent slotHead = false := by decide

/-- R186: of two short frames that come without a gap, MAP_SUMMARY and QUEUE_READ, the first is taken at the first byte of
the second. -/
theorem test_frames_run_together : ∃ s t, receive (headerBytes 0 2 0 ++ headerBytes 0 3 0) State.reset = .next s ∧
    s.link.commands.map (·.kind) = [2] ∧ exec (.linkFrame []) s = .next t ∧ t.link.commands.map (·.kind) = [2, 3] :=
  ⟨_, _, rfl, by decide, rfl, by decide⟩

/-! ## Witnesses: the hypotheses of each statement can be met -/

theorem witness_StepTakesFrontCommand : State.reset.pending = [] := rfl

theorem witness_StepKeepsLineAndCapacities :
    full.port.sound ∧ full.withinCapacity ∧ full.talliesBounded ∧ ∃ t, step full = .next t :=
  ⟨⟨by decide, by decide⟩, ⟨by decide, by decide, by decide, by decide, by decide⟩, ⟨by decide, by decide, by decide⟩,
    _, rfl⟩

theorem held_storeServed : held.storeServed := fun _ => ⟨by decide, by decide, by decide⟩

theorem held_lineServed : held.lineServed := fun _ => ⟨rfl, fun _ h => by cases h⟩

/-- A read asked of an idle store is granted at once, and an answer goes straight to an idle transmitter (R76, R189). -/
theorem witness_StepKeepsLineAndCapacities_served :
    (let s : State := { held with pending := [.stripRead 0] }
     s.storeServed ∧ s.lineServed ∧ ∃ t, step s = .next t ∧ t.store.burst = some .link ∧ t.store.lastReader = .link) ∧
    (let s : State := { held with pending := [.mapSummary] }
     s.storeServed ∧ s.lineServed ∧ ∃ t, step s = .next t ∧ t.link.tx.map (·.role) = some .response) :=
  ⟨⟨held_storeServed, held_lineServed, _, rfl, by decide⟩, held_storeServed, held_lineServed, _, rfl, by decide⟩

theorem witness_StepKeepsTablesCanonical :
    { held with pending := [.keep 0 4095] }.canonical ∧ ∃ t, step { held with pending := [.keep 0 4095] } = .next t :=
  ⟨⟨by decide, by decide, by decide, by decide⟩, _, rfl⟩

theorem witness_StepKeepsRequestQueueSound (st : RequestState) :
    (recording st).requestsSound ∧ ∃ t, step (recording st) = .next t := ⟨recording_sound st, _, rfl⟩

theorem witness_StepKeepsPassState (st : RequestState) :
    (recording st).passSound ∧ ∃ t, step (recording st) = .next t := ⟨recording_pass st, _, rfl⟩

theorem witness_StepKeepsSegmentStates (st : RequestState) :
    (recording st).sound ∧ ∃ t, step (recording st) = .next t := ⟨recording_all st, _, rfl⟩

theorem witness_StepKeepsStripsAndMapAgreed (st : RequestState) :
    (recording st).sound ∧ ∃ t, step (recording st) = .next t := ⟨recording_all st, _, rfl⟩

theorem witness_StepKeepsKeptCounts : ready.sound ∧ ∃ t, step ready = .next t := ⟨ready_all, _, rfl⟩

theorem witness_StepKeepsSlotsSound : ready.sound ∧ (∃ t, step ready = .next t ∧
    t.slot 0 = .ready slotHead ⟨0, 0, 0, false⟩ [(1, 1), (2, 2)]) ∧
    ready.slot 0 = .ready slotHead ⟨0, 0, 0, false⟩ [(1, 1), (2, 2)] ∧
    slotHead.changes ≠ (ready.segment slotHead.segment).changes :=
  ⟨ready_all, ⟨_, rfl, rfl⟩, rfl, by decide⟩

theorem witness_ProfileImageReadsBack : Profile.default.valid = true ∧
    readProfile Profile.default.image = some Profile.default := by decide

theorem witness_LinkFramesCarryCommands : (commandFrame (.fetchRaw 1023 7 262143 21845)).isSome = true ∧
    (Instr.fetchRaw 1023 7 262143 21845).wellFormed = true ∧ (commandFrame .workstationRestart).isSome = true ∧
    { State.reset.link with rx := ⟨.framed, [], none⟩ }.rx = ⟨.framed, [], none⟩ ∧
    (⟨42, 8, List.replicate 8 0#8⟩ : CommandFrame).kind < 64 := by decide

theorem witness_HeaderCheckCorrectsOneDetectsTwo : (0 < 2 ^ 24 ∧ 16777215 < 2 ^ 24) ∧ 64 ≤ 64 ∧ 64 ≤ 255 := by decide

theorem witness_TransactionsNameCommands : transactionBytes (.motion 255 .clearTape) = some [2, 255] ∧
    (Instr.motion 255 .clearTape).wellFormed = true ∧
    (∀ mode x, Instr.motion 255 .clearTape = .motion mode x → x = .clearTape) ∧
    transactionBytes (.unknownCommand 255) = some [255] ∧ (Instr.unknownCommand 255).wellFormed = true ∧
    (let p := State.reset.port.replying [2, 6] .range (.mode none)
     p.transaction = some [2#8, 6#8] ∧ p.reply = some ⟨.range, .mode none⟩) :=
  ⟨rfl, by decide, fun _ _ h => by cases h; rfl, rfl, by decide, rfl, rfl⟩

theorem witness_MotionWithNoPassOpen : (5 < 6 ∧ 5 < 255) ∧
    (State.reset.motion.mode = .unloaded ∧ Mode.stop ≠ .unloaded ∧ State.reset.capture.pass = none ∧
      State.reset.map.session = .vacant) ∧
    { State.reset with map := { State.reset.map with session := .detached } }.map.session = .detached ∧
    (held.motion.mode = .stop ∧ held.capture.pass = none ∧ held.map.session = .armed ∧ held.motion.sync = .synced ∧
      held.motion.run = none) := by decide

theorem witness_MotionAndInputLossClosePass (st : RequestState) : held.capture.pass = none ∧ (recording st).canonical ∧
    (recording st).capture.pass = some ⟨2, some ⟨1, 1⟩, 1⟩ ∧ (recording st).motion.high = some ⟨608, 640⟩ ∧
    (recording st).capture.span = some span ∧ ((recording st).strip 1).state ≠ .vacant ∧
    span.index < ((recording st).strip 1).spans.length ∧ (recording st).motion.mode = .play ∧
    (recording st).motion.run ≠ none ∧ (recording st).map.session = .armed := by
  refine ⟨rfl, recording_canonical st, ?_⟩
  cases st <;> decide

theorem witness_EnteringPlayOpensPass :
    let s : State := { held with
      motion := { held.motion with position := 2097151, tapeEnd := some 2097152 }
      map := { held.map with passCounter := 65534 } }
    s.canonical ∧ s.capture.pass = none ∧ s.motion.mode ≠ .unloaded ∧ s.motion.mode ≠ .play ∧
      { s with motion := { s.motion with mode := .play } }.opens ∧ s.map.passCounter < 65535 ∧
      s.capture.lastResidue = some (Quad.fill 7#16) :=
  ⟨⟨by decide, by decide, by decide, by decide⟩, by decide, by decide, by decide,
    ⟨by decide, by decide, rfl, by decide, fun e h => by cases h; decide, by decide⟩, by decide, by decide⟩

theorem witness_TakeAnswersByQueue :
    ((withRequest .taken).requestsSound ∧ ∃ r ∈ (withRequest .taken).requests.queue, r.state ≠ .queued) ∧
    (held.requests.queue = []) ∧
    ((withRequest .queued).requestsSound ∧ ∀ x ∈ (withRequest .queued).requests.queue, x.state = .queued) :=
  ⟨⟨withRequest_sound _, by decide⟩, rfl, withRequest_sound _, by decide⟩

theorem witness_AbandonEndsTakenRequest :
    (withRequest .queued).requestsSound ∧ (∃ r ∈ (withRequest .queued).requests.queue, r.id = 1 ∧ r.state = .queued) ∧
    (withRequest .queued).idState 2 = .ended ∧ (withRequest .queued).idState 255 = .neverIssued ∧
    (withRequest .active).requestsSound ∧ ∃ r ∈ (withRequest .active).requests.queue, r.id = 1 ∧ r.state ≠ .queued :=
  ⟨withRequest_sound _, by decide, by decide, by decide, withRequest_sound _, by decide⟩

theorem witness_StatusAndNoticeAnswered :
    { State.reset.port with fifo := [.mapStale] }.fifo = .mapStale :: [] ∧ State.reset.port.fifo = [] := by decide

theorem witness_TransportRestartStopsDeck : held.capture.pass = none ∧ State.reset.capture.pass = none ∧
    (recording .active).requestsSound ∧ (recording .active).motion.mode = .play ∧
    (recording .active).capture.pass.isSome = true ∧
    ∀ st, (recording st).canonical ∧ (recording st).requestsSound ∧ (recording st).motion.mode = .play ∧
      (recording st).capture.pass = some ⟨2, some ⟨1, 1⟩, 1⟩ ∧ (recording st).motion.high = some ⟨608, 640⟩ ∧
      (recording st).capture.span = some span ∧ ((recording st).strip 1).state ≠ .vacant ∧
      span.index < ((recording st).strip 1).spans.length ∧ ∃ r ∈ (recording st).requests.queue, r.state = st :=
  ⟨rfl, rfl, recording_sound _, by decide, by decide, fun st =>
    ⟨recording_canonical st, recording_sound st, by cases st <;> decide⟩⟩

/-- `held` at a position with the mark sensor as given. -/
def sensing (position : Int) (level : Level) (travel : Nat) (interval : Option ClearInterval) : State :=
  { held with motion := { held.motion with
      position := position, sensorLevel := level, edgeTravel := travel, clearInterval := interval } }

theorem sensing_ready (position : Int) (level : Level) (travel : Nat) (interval : Option ClearInterval) :
    (sensing position level travel interval).canonical ∧ (sensing position level travel interval).capture.pass = none ∧
      (sensing position level travel interval).motion.sync = .synced ∧
      (sensing position level travel interval).map.session = .armed :=
  ⟨⟨held_canonical.segments, held_canonical.strips, held_canonical.slots, held_canonical.ids⟩, rfl, rfl, rfl⟩

/-- `recording` at a position whose high-water position it is, with the next boundary and the sensor as given: its run goes
on. -/
def recordingAt (position next : Int) (level : Level) (travel : Nat) (interval : Option ClearInterval) : State :=
  let s := recording .active
  { s with motion := { s.motion with
      position := position, high := some ⟨position, next⟩, sensorLevel := level, edgeTravel := travel
      clearInterval := interval } }

theorem recordingAt_ready (position next : Int) (level : Level) (travel : Nat) (interval : Option ClearInterval) :
    let s := recordingAt position next level travel interval
    s.canonical ∧ s.motion.mode ≠ .unloaded ∧ s.motion.run = some ⟨some (1, 1)⟩ ∧
      s.capture.pass = some ⟨2, some ⟨1, 1⟩, 1⟩ ∧ s.motion.high = some ⟨position, next⟩ ∧ s.capture.span = some span ∧
      s.capture.lastResidue = some (Quad.fill 7#16) ∧ s.timebase = some (startTimebase Profile.default.timebase) ∧
      s.motion.tapeEnd = none ∧ (s.strip 1).state ≠ .vacant ∧ (s.strip 1).spans.length = 16 ∧
      s.motion.sync = .synced ∧ s.map.session = .armed :=
  let h := recording_canonical .active
  ⟨⟨h.segments, h.strips, h.slots, h.ids⟩, (by decide : Mode.play ≠ _), rfl, rfl, rfl, rfl, rfl, rfl, rfl,
    (by decide : strip1.state ≠ _), (by decide : strip1.spans.length = 16), rfl, rfl⟩

theorem sensing_quiet (position : Int) (level : Level) (travel : Nat) (interval : Option ClearInterval) (d : Dir)
    (hl : -8388607 ≤ position ∧ position ≤ 8388606)
    (hb : (match d with | .forward => position + 1 | .reverse => position) % 32 ≠ 0) :
    (sensing position level travel interval).quietPulse d where
  loaded := (by decide : Mode.stop ≠ .unloaded)
  high := rfl
  limits := by
    cases d
    · show (-8388608 ≤ position + 1 ∧ position + 1 ≤ 8388607 : Prop)
      omega
    · show (-8388608 ≤ position - 1 ∧ position - 1 ≤ 8388607 : Prop)
      omega
  idle := fun _ => hb
  recording := fun h hh => absurd (hh : none = some h) nofun

theorem recordingAt_quiet (position next : Int) (level : Level) (travel : Nat) (interval : Option ClearInterval) (d : Dir)
    (h0 : 1 ≤ position) (h1 : position + 1 < next) (h2 : next ≤ 2097152) :
    (recordingAt position next level travel interval).quietPulse d where
  loaded := (by decide : Mode.play ≠ .unloaded)
  high := rfl
  limits := by
    cases d
    · show (-8388608 ≤ position + 1 ∧ position + 1 ≤ 8388607 : Prop)
      omega
    · show (-8388608 ≤ position - 1 ∧ position - 1 ≤ 8388607 : Prop)
      omega
  idle := fun h => absurd (h : some _ = none) nofun
  recording := by
    intro h hh
    cases d <;> cases hh
    · refine ⟨?_, fun _ => ?_, fun e he => absurd (he : none = some e) nofun⟩
      · show 0 ≤ position + 1
        omega
      · show max position (position + 1) < next
        omega
    · refine ⟨?_, fun hd => absurd hd nofun, fun e he => absurd (he : none = some e) nofun⟩
      show 0 ≤ position - 1
      omega

theorem witness_PulseMovesPosition : State.reset.motion.mode = .unloaded ∧
    (∀ d, (sensing 600 .clearTape 14 none).quietPulse d) ∧
    (∀ d, (recordingAt 601 640 .opaqueTape 15 none).quietPulse d) ∧
    ((sensing 600 .clearTape 14 none).motion.edgeTravel < 15 ∧ (600 : Int) + 1 < 538 + 64 ∧ (662 : Int) - 64 < 600 - 1) ∧
    ((recordingAt 601 640 .opaqueTape 15 none).motion.sensorLevel = .opaqueTape ∧
      15 ≤ (recordingAt 601 640 .opaqueTape 15 none).motion.edgeTravel) ∧
    ((sensing 600 .clearTape 15 (some ⟨.load, true⟩)).motion.sensorLevel = .clearTape ∧
      (sensing 600 .clearTape 15 (some ⟨.load, true⟩)).motion.clearInterval = some ⟨.load, true⟩) ∧
    (sensing 8388607 .opaqueTape 16 none).motion.clearInterval = none ∧
    8388607 < (8388607 : Int) + 1 ∧ (-8388608 : Int) - 1 < -8388608 :=
  ⟨by decide, fun d => sensing_quiet _ _ _ _ d (by decide) (by cases d <;> decide),
    fun d => recordingAt_quiet _ _ _ _ _ d (by decide) (by decide) (by decide), by decide, by decide, by decide, rfl,
    by decide, by decide⟩

theorem witness_WearCountedOncePerRun :
    let s : State := { held with motion := { held.motion with run := some ⟨some (1, 1)⟩ } }
    let u : State := { held with motion := { held.motion with run := some ⟨some (2, 7)⟩ } }
    (held.motion.run = none ∧ State.reset.map.session ≠ .armed ∧ (512 : Int) ≤ 512 * (600 / 512)) ∧
    s.canonical ∧ s.map.session = .armed ∧ 1 = (s.motion.position / 512).toNat ∧ s.motion.tapeEnd = none ∧
      (1 ≤ 1 ∧ s.motion.run = some ⟨some (1, 1)⟩) ∧ u.canonical ∧ (u.motion.run = some ⟨some (2, 7)⟩ ∧ 1 < 2) :=
  ⟨by decide, ⟨by decide, by decide, by decide, by decide⟩, by decide, by decide, by decide, by decide,
    ⟨by decide, by decide, by decide, by decide⟩, by decide⟩

/-- The tests of R7 met at a level that is not yet accepted. -/
theorem witness_SensorMarksTaken_unaccepted :
    (let s := sensing 630 .clearTape 14 (some ⟨.forwardEdge 567, false⟩)
     s.canonical ∧ s.quietPulse .forward ∧ s.motion.edgeTravel < 15 ∧ (567 : Int) + 64 ≤ 630 + 1) ∧
    (let s := recordingAt 610 640 .clearTape 14 (some ⟨.reverseEdge 673, false⟩)
     s.canonical ∧ s.quietPulse .reverse ∧ s.motion.edgeTravel < 15 ∧ (610 : Int) - 1 ≤ 673 - 64) :=
  ⟨⟨(sensing_ready ..).1, sensing_quiet _ _ _ _ _ (by decide) (by decide), by decide, by decide⟩,
    (recordingAt_ready ..).1, recordingAt_quiet _ _ _ _ _ _ (by decide) (by decide) (by decide), by decide, by decide⟩

theorem witness_SensorMarksTaken :
    ((sensing 600 .clearTape 15 (some ⟨.forwardEdge 590, false⟩)).canonical ∧
      (sensing 600 .clearTape 15 (some ⟨.forwardEdge 590, false⟩)).quietPulse .forward ∧
      (sensing 600 .clearTape 15 (some ⟨.forwardEdge 590, false⟩)).motion.sync = .synced ∧ held.map.session = .armed ∧
      (0 ≤ (590 : Int) ∧ (590 : Int) < 2097152)) ∧
    ((recordingAt 610 640 .clearTape 15 (some ⟨.reverseEdge 620, false⟩)).quietPulse .reverse ∧
      (recordingAt 610 640 .clearTape 16 (some ⟨.forwardEdge 547, false⟩)).quietPulse .forward ∧
      (547 : Int) + 64 ≤ 610 + 1 ∧ (600 : Int) - 1 ≤ 663 - 64) ∧
    ((sensing 64 .clearTape 15 (some ⟨.load, true⟩)).quietPulse .forward ∧
      (recordingAt 610 640 .clearTape 15 (some ⟨.reverseEdge 700, true⟩)).quietPulse .forward ∧ (0 : Int) ≤ 611 - 611 ∧
      (recordingAt 610 640 .clearTape 16 (some ⟨.reverseEdge 673, false⟩)).quietPulse .reverse ∧ (609 : Int) ≤ 673 - 64 ∧
      (609 : Int) - 673 < 0) ∧
    (State.reset.motion.sync = .unsynced ∧ State.reset.motion.run = none ∧
      { held.motion with mode := .reversePlay, sync := .unsynced }.mode = .reversePlay) ∧
    ((64 : Int).natAbs ≤ 64 ∧ 64 < (-65 : Int).natAbs) ∧ (held.motion.sync = .synced ∧ held.capture.pass = none) ∧
    (recording .active).canonical ∧ (recording .active).motion.sync = .synced ∧
    (recording .active).capture.pass = some ⟨2, some ⟨1, 1⟩, 1⟩ ∧ (recording .active).motion.high = some ⟨608, 640⟩ :=
  ⟨⟨(sensing_ready ..).1, sensing_quiet _ _ _ _ _ (by decide) (by decide), rfl, rfl, by decide⟩,
    ⟨recordingAt_quiet _ _ _ _ _ _ (by decide) (by decide) (by decide),
      recordingAt_quiet _ _ _ _ _ _ (by decide) (by decide) (by decide), by decide, by decide⟩,
    ⟨sensing_quiet _ _ _ _ _ (by decide) (by decide), recordingAt_quiet _ _ _ _ _ _ (by decide) (by decide) (by decide),
      by decide, recordingAt_quiet _ _ _ _ _ _ (by decide) (by decide) (by decide), by decide, by decide⟩,
    by decide, by decide, by decide, recording_canonical _, by decide, by decide, by decide⟩

theorem witness_BoundaryEndsSpan :
    ((sensing 639 .opaqueTape 3 none).canonical ∧ (sensing 639 .opaqueTape 3 none).motion.mode ≠ .unloaded ∧
      (sensing 639 .opaqueTape 3 none).motion.clearInterval = none ∧ held.capture.pass = none ∧ held.motion.high = none ∧
      held.motion.mode ≠ .play ∧ ((639 : Int) + 1) % 32 = 0) ∧
    (let s : State := { sensing (-1) .opaqueTape 3 none with
       motion := { (sensing (-1) .opaqueTape 3 none).motion with mode := .play, run := some ⟨none⟩ } }
     s.canonical ∧ s.capture.pass = none ∧ s.motion.high = none ∧ s.motion.mode = .play ∧ ((-1 : Int) + 1) % 32 = 0) ∧
    ((recordingAt 0 32 .opaqueTape 3 none).motion.high = some ⟨0, 32⟩ ∧ (0 : Int) - 1 < 0) ∧
    (let s : State := { recordingAt 610 640 .opaqueTape 3 none with
       motion := { (recordingAt 610 640 .opaqueTape 3 none).motion with tapeEnd := some 611 } }
     s.canonical ∧ s.motion.high = some ⟨610, 640⟩ ∧ s.motion.tapeEnd = some 611 ∧ ¬max (610 : Int) 611 < 611) ∧
    (recordingAt 639 640 .opaqueTape 3 none).canonical ∧
    (recordingAt 639 640 .opaqueTape 3 none).motion.run = some ⟨some (1, 1)⟩ ∧
    (recordingAt 639 640 .opaqueTape 3 none).capture.pass = some ⟨2, some ⟨1, 1⟩, 1⟩ ∧
    (recordingAt 639 640 .opaqueTape 3 none).motion.tapeEnd = none ∧
    (640 : Int) ≤ max 639 (639 + 1) ∧ (640 : Int) % 512 ≠ 0 ∧ span.index < strip1.spans.length :=
  ⟨⟨(sensing_ready ..).1, by decide, rfl, rfl, rfl, by decide, by decide⟩,
    ⟨⟨held_canonical.segments, held_canonical.strips, held_canonical.slots, held_canonical.ids⟩, rfl, rfl, rfl, by decide⟩,
    by decide, ⟨⟨(recording_canonical .active).segments, (recording_canonical .active).strips,
      (recording_canonical .active).slots, (recording_canonical .active).ids⟩, rfl, rfl, by decide⟩,
    (recordingAt_ready ..).1, rfl, rfl, rfl, by decide, by decide, by decide⟩

/-- Pulses over a boundary, forward from 639 and into segment 2 from 1023, that find no mark: an OPEN interval up to the last
position below the test of R7, a level not yet accepted, an edge that opens an interval and one that closes it (R5 to R8). -/
theorem witness_BoundaryEndsSpan_sensor :
    (recordingAt 639 640 .clearTape 3 (some ⟨.forwardEdge 577, false⟩)).findsNoMark .forward .clearTape 4 .clearTape
      (some ⟨.forwardEdge 577, false⟩) ∧
    (recordingAt 1023 1024 .opaqueTape 14 none).findsNoMark .forward .clearTape 15 .opaqueTape none ∧
    (recordingAt 639 640 .opaqueTape 15 none).findsNoMark .forward .clearTape 0 .clearTape
      (some ⟨.forwardEdge 640, false⟩) ∧
    (sensing 640 .clearTape 16 (some ⟨.forwardEdge 630, false⟩)).findsNoMark .reverse .opaqueTape 0 .opaqueTape none :=
  ⟨.inl ⟨.inl rfl, fun e h => by cases h; decide, nofun, rfl, rfl, rfl⟩,
    .inl ⟨.inr (by decide), nofun, nofun, rfl, rfl, rfl⟩, .inr (.inl ⟨rfl, rfl, by decide, rfl, rfl, rfl⟩),
    .inr (.inr ⟨rfl, rfl, by decide, .inr (.inr (.inl ⟨rfl, .inr (.inr ⟨630, rfl⟩)⟩)), rfl, rfl, rfl⟩)⟩

theorem witness_SegmentBoundaryLeavesSegment :
    (let s := recordingAt 1023 1024 .opaqueTape 3 none
     s.canonical ∧ s.motion.mode ≠ .unloaded ∧ s.motion.clearInterval = none ∧
       s.capture.pass = some ⟨2, some ⟨1, 1⟩, 1⟩ ∧ s.motion.high = some ⟨1023, 1024⟩ ∧ s.capture.span = some span ∧
       s.capture.lastResidue = some (Quad.fill 7#16) ∧ (s.strip 1).state ≠ .vacant ∧
       span.index < (s.strip 1).spans.length ∧ (1024 : Int) = 512 * ((1 : Nat) + 1) ∧ (1024 : Int) ≤ max 1023 (1023 + 1) ∧
       s.motion.run = some ⟨some (1, 1)⟩ ∧ s.map.session = .armed ∧ 1 < 1 + 1) ∧
    (let s : State := { recordingAt 2097151 2097152 .opaqueTape 3 none with
       capture := { (recordingAt 2097151 2097152 .opaqueTape 3 none).capture with pass := some ⟨2, some ⟨4095, 1⟩, 4095⟩ } }
     s.canonical ∧ s.capture.pass = some ⟨2, some ⟨4095, 1⟩, 4095⟩ ∧ s.motion.high = some ⟨2097151, 2097152⟩ ∧
       (2097152 : Int) = 512 * ((4095 : Nat) + 1)) ∧
    (1024 : Int) < 2097152 ∧ { (recording .active).motion with tapeEnd := some 1024 }.tapeEnd = some 1024 :=
  ⟨⟨(recordingAt_ready ..).1, by decide, rfl, rfl, rfl, rfl, rfl, by decide, by decide, by decide, by decide, rfl, rfl,
      by decide⟩,
    ⟨⟨(recording_canonical .active).segments, (recording_canonical .active).strips,
      (recording_canonical .active).slots, (recording_canonical .active).ids⟩, rfl, rfl, by decide⟩, by decide, rfl⟩

theorem witness_FrameTakenByPassState_layout (e : Fin 8) :
    let x : Oct Int := ⟨-8388608, 8388607, 0, 0, 0, 0, 0, 0⟩
    x.get e ≤ 8388607 ∧ -8388608 ≤ x.get e := by decide +revert

theorem witness_FrameTakenByPassState : (List.replicate 32 0#8).length < 33 ∧ 33 ≤ (List.replicate 33 0#8).length ∧
    (held.capture.pass = none ∧ held.motion.mode ≠ .play) ∧
    (let s : State := { held with
       motion := { held.motion with mode := .play }, capture := { held.capture with inputWait := true } }
     s.canonical ∧ s.capture.pass = none ∧ s.motion.mode = .play ∧ s.capture.inputWait = true ∧ s.map.session = .armed ∧
       s.motion.sync = .synced ∧ (0 ≤ s.motion.position ∧ s.motion.position < 2097152) ∧ s.motion.tapeEnd = none ∧
       s.map.passCounter < 65535) ∧
    { held.map with passCounter := 65535 }.passCounter = 65535 ∧
    { (recording .queued).capture with overrun := true }.overrun = true ∧
    (readElementFrame (List.replicate 33 0#8)).isSome = true ∧
    (recording .queued).capture.pass = some ⟨2, some ⟨1, 1⟩, 1⟩ ∧ (recording .queued).capture.overrun = false ∧
    (recording .queued).capture.span = some span ∧ (recording .queued).capture.cell = some ⟨0, 0, Oct.fill 0⟩ :=
  ⟨by decide, by decide, by decide, ⟨⟨by decide, by decide, by decide, by decide⟩, by decide⟩, by decide, by decide,
    by decide, by decide, by decide, by decide, by decide⟩

theorem witness_FullCellIsJudged :
    let s : State := { recording .active with
      capture := { (recording .active).capture with frameCount := 262143, cell := some ⟨4095, 63, Oct.fill 0⟩ } }
    s.canonical ∧ (readElementFrame (List.replicate 33 0#8)).isSome = true ∧
      s.capture.pass = some ⟨2, some ⟨1, 1⟩, 1⟩ ∧ s.capture.overrun = false ∧ s.capture.span = some span ∧
      s.capture.cell = some ⟨4095, 63, Oct.fill 0⟩ ∧ (s.strip 1).state ≠ .vacant ∧ s.capture.frameCount + 1 = 262144 :=
  ⟨⟨by decide, by decide, by decide, by decide⟩, by decide⟩

/-- At the strip's end: a last cell of any number of frames, with none the one that is not judged. -/
theorem witness_FullCellIsJudged_end (k : Nat) :
    let s : State := { recording .active with capture := { (recording .active).capture with
      span := none, closing := some { span with ended := some .cut }, cell := some ⟨5, k, Oct.fill 0⟩ } }
    s.canonical ∧ s.capture.pass = some ⟨2, some ⟨1, 1⟩, 1⟩ ∧ s.capture.cell = some ⟨5, k, Oct.fill 0⟩ ∧
      (s.strip 1).state ≠ .vacant ∧ s.capture.closing = some { span with ended := some .cut } :=
  have h := recording_canonical .active
  ⟨⟨h.segments, h.strips, h.slots, h.ids⟩, rfl, rfl, (by decide : strip1.state ≠ _), rfl⟩

/-- A count in the lock window of the default profile, and one outside it (R47, R48). -/
theorem witness_AppliedLengthFollowsLock : ((448000000 : Int) - 422733002).natAbs * 1024 ≤ 422733002 * 128 ∧
    (((7055 * 6291456000 + 105000 / 2) / 105000 : Nat) - (422733002 : Int)).natAbs * 1024 ≤ 422733002 * 61 ∧
    ¬(((6500 * 6291456000 + 105000 / 2) / 105000 : Nat) - (422733002 : Int)).natAbs * 1024 ≤ 422733002 * 61 ∧
    (Side.B, Source.resLeft, (3 : Fin 4)) ∈
      ([(.A, .resLeft, 0), (.A, .resRight, 1), (.B, .resLeft, 3), (.B, .resRight, 2)] : List (Side × Source × Fin 4)) := by
  decide

theorem witness_RingAndVictimChosenInOrder : held.canonical ∧
    (let s : State := { held with store := { held.store with ringPointer := 255 } }
     s.store.ringPointer < s.store.stripCount ∧ (s.strip 0).state = .held ∧ (s.strip 0).owner = some (1, 1) ∧
       (s.segment 1).keep = false ∧ (s.strip 255).state = .vacant) ∧
    ∀ e ∈ [(⟨1, 0, some fields⟩ : Entry), ⟨2, 1, some { fields with exclude := true }⟩], e.fields.isSome = true :=
  ⟨held_canonical, by decide, by decide⟩

theorem witness_FinalizationSetsHazard : held.canonical ∧ (∀ t, fields.quality.get t ≤ 15) ∧
    (held.strip 0).state ≠ .vacant ∧
    Validity.valid ∈ fields.validity ∧ Validity.valid ∉ { fields with validity := [.empty] }.validity ∧
    [SpanRecord.fresh, { SpanRecord.fresh with validity := .valid }].filter (fun r => r.validity = .valid) ≠ [] :=
  ⟨held_canonical, by decide, by decide, by decide, by decide, by decide⟩

theorem witness_WriterServedFirstAndStored :
    (let writing : State := { held with store := { held.store with recordWrites := [(0, .table)] } }
     let reading : State := { held with link := held.link.reading 4 (.strip 0) }
     let rendering : State := { rendered with render := ⟨[], false, some { job [0] with bursting := false }⟩ }
     let both : State := { rendering with link := rendering.link.reading 4 (.strip 0) }
     { held.store with burst := some .link }.burst ≠ none ∧ writing.store.burst = none ∧
       writing.writerRequest = some (.records 0 .table) ∧
       (both.writerRequest = none ∧ both.renderWants = true ∧ both.linkWants = true ∧ both.store.lastReader = .render) ∧
       (rendering.renderWants = true ∧ rendering.linkWants = false) ∧
       (reading.linkWants = true ∧ reading.renderWants = false) ∧ held.renderWants = false ∧ held.linkWants = false) ∧
    (let buffered : Strip → Nat → State := fun x n => { held with store := { held.store with
       strips := [(0, x)], writeBuffer := (0, frame) :: List.replicate n (0, frame) } }
     held.store.writeBuffer = [] ∧ 64 ≤ ((buffered strip0 63).store.writeBuffer.takeWhile fun w => w.1 = 0).length ∧
       ((buffered strip0 0).store.writeBuffer.takeWhile fun w => w.1 = 0).length < 64 ∧
       ((buffered strip0 0).strip 0).state ≠ .opened ∧ ((buffered strip1 62).strip 0).state = .opened ∧
       ((buffered strip1 62).store.writeBuffer.takeWhile fun w => w.1 = 0).length < 64) ∧
    let frames : Store := { held.store with
      burst := some .writer, writeBurst := some (.frames 0 1), writeBuffer := [(0, frame)] }
    let records : Store := { held.store with burst := some .writer, writeBurst := some (.records 0 .table) }
    held.store.burst ≠ some .writer ∧
    ({ held with store := frames }.canonical ∧ ({ held with store := frames }.strip 0).state ≠ .vacant) ∧
    { held with store := records }.canonical ∧ ({ held with store := records }.strip 0).state = .held ∧
      ({ held with store := records }.strip 0).descriptor = some descriptor ∧ records.writeBuffer = [] ∧
      records.recordWrites = [] :=
  ⟨by decide, by decide, by decide, ⟨⟨by decide, by decide, by decide, by decide⟩, by decide⟩,
    ⟨by decide, by decide, by decide, by decide⟩, by decide, by decide, rfl, rfl⟩

/-- A record write waits behind a burst in progress, which is served (R76); the burst's completion has it granted. -/
theorem witness_WriterServedFirstAndStored_served :
    let s : State := { held with store := { held.store with
      burst := some .writer, writeBurst := some (.records 0 .dropoutLow), recordWrites := [(0, .table)] } }
    s.storeServed ∧ ∃ t, exec .writeBurstComplete s = .next t ∧ t.store.burst = some .writer ∧
      t.store.writeBurst = some (.records 0 .table) :=
  ⟨fun h => (by cases h), _, rfl, by decide⟩

theorem witness_KeepWithinLimit : held.canonical ∧ held.hasRoom ∧ 5 < 6 ∧ 4096 ≤ 4096 ∧ (0 ≤ 15 ∧ 15 < 4096) ∧
    ¬(held.store.stripCount / 4 < 4 * (held.store.keptSegments + 16)) ∧
    held.store.stripCount / 4 < 4 * (held.store.keptSegments + 17) :=
  ⟨held_canonical, by unfold State.hasRoom; decide, by decide⟩

theorem held_hasRoom : held.hasRoom := by
  unfold State.hasRoom
  decide

theorem witness_ExcludeSetsEntryField :
    held.canonical ∧ held.hasRoom ∧ (∀ e ∈ (held.segment 4095).entries, e.pass ≠ 1) ∧
    ((held.segment 1).entries.find? fun e => e.pass = 1) = some ⟨1, 0, some fields⟩ ∧ fields.exclude = false ∧
    ((recording .queued).segment 1).entries.find? (fun e => e.pass = 2) = some ⟨2, 1, none⟩ :=
  ⟨held_canonical, held_hasRoom, by decide, by decide, by decide, by decide⟩

theorem witness_AnnotationsMarkSegments : held.canonical ∧ held.hasRoom ∧ 5 < 6 ∧ 4096 ≤ 4096 ∧ (0 ≤ 4095 ∧ 4095 < 4096) ∧
    255 ≤ 255 ∧ 511 < 512 ∧ 511 ≤ 511 := ⟨held_canonical, held_hasRoom, by decide⟩

theorem witness_ReadCommandsAnswerFromState : held.hasRoom ∧ (16 < 17 ∧ 4096 < 4095 + 2) ∧
    (1 ≤ 1 ∧ 1 ≤ 16 ∧ 4095 + 1 ≤ 4096) ∧ 32 < 31 + 2 ∧ (1 ≤ 1 ∧ 31 + 1 ≤ 32) ∧
    (fields.validity.length = 16 ∧ ∀ t, fields.quality.get t ≤ 15) ∧
    ∀ e ∈ segment1.entries, e.fields = some fields := ⟨held_hasRoom, by decide⟩


theorem witness_AppendTestsThenQueues (st : RequestState) :
    let s := withRequest st
    s.requestsSound ∧ s.link.commands.length < 16 ∧ s.requests.queue.length < 16 ∧ s.motion.tapeEnd = none ∧
      (∃ r ∈ s.requests.queue, r.first = 40 ∧ r.last = 42) ∧ (¬∃ r ∈ s.requests.queue, r.first = 40 ∧ r.last = 43) ∧
      s.link.profile.wearLimit = 6 ∧ (s.segment 40).wear + 1 + 1 ≤ 6 :=
  ⟨withRequest_sound st, by cases st <;> decide⟩

/-- Sixteen requests are live at most: the clause FULL of REQUEST_APPEND. -/
def crowded : State :=
  { held with
    requests := ⟨(List.range 16).map fun i => ⟨i + 1, i, i, i, .queued⟩, none, none,
      (List.range 16).map fun i => (i + 1, .live), 16⟩ }

theorem crowded_sound : crowded.requestsSound where
  distinct := by decide
  live := by
    intro id
    by_cases h : id < 17
    · exact (show ∀ i < 17, crowded.idState i = .live ↔ i ∈ crowded.requests.queue.map (·.id) by decide) id h
    · constructor
      · intro hl
        have ht : Table.get IdState.neverIssued ((List.range 16).map fun i => (i + 1, .live)) id = .neverIssued := by
          have hg : ∀ l : List Nat, (∀ i ∈ l, i + 1 ≠ id) →
              Table.get IdState.neverIssued (l.map fun i => (i + 1, .live)) id = .neverIssued := by
            intro l hl
            induction l with
            | nil => rfl
            | cons i l ih =>
              rw [List.map_cons, Table.get_cons, if_neg]
              · exact ih fun k hk => hl k (List.mem_cons_of_mem _ hk)
              · exact fun he => hl i (List.mem_cons_self ..) (by omega)
          exact hg _ fun i hi => by rw [List.mem_range] at hi; omega
        exact absurd (show IdState.neverIssued = .live from ht ▸ hl) (by decide)
      · intro hm
        exact absurd hm (by
          show id ∉ ((List.range 16).map fun i => (⟨i + 1, i, i, i, .queued⟩ : Request)).map (·.id)
          simp only [List.map_map, List.mem_map, List.mem_range, Function.comp, not_exists, not_and]
          intro x hx he
          omega)
  ids := by decide
  issued := by decide
  ranges := by decide
  oneTaken := by decide
  timer := by decide
  room := by decide
  table := by decide

theorem witness_AppendTestsThenQueues_full : crowded.requestsSound ∧ 16 ≤ crowded.requests.queue.length :=
  ⟨crowded_sound, by decide⟩

theorem witness_TimerOrCancelEndsRequest (st : RequestState) : ((withRequest .active).requestsSound ∧
    (∀ r ∈ (withRequest .active).requests.queue, r.state ≠ .taken) ∧ (withRequest .taken).requestsSound ∧
    ∃ r ∈ (withRequest .taken).requests.queue, r.state = .taken) ∧
    (withRequest st).requestsSound ∧
    (withRequest st).link.commands.length < 16 ∧ (withRequest st).idState 2 = .ended ∧
    (withRequest st).idState 255 = .neverIssued ∧ ∃ r ∈ (withRequest st).requests.queue, r.id = 1 ∧ r.state = st :=
  ⟨⟨withRequest_sound _, by decide, withRequest_sound _, by decide⟩, withRequest_sound st, by cases st <;> decide⟩

/-- `held` with a request ACTIVE in the last segment of its range. -/
def lastRead : State :=
  let s := withRequest .active
  { s with requests := { s.requests with queue := [⟨1, 40, 42, 42, .active⟩] } }

theorem lastRead_sound : lastRead.requestsSound :=
  let h := withRequest_sound .active
  ⟨h.distinct, h.live, by decide, h.issued, by decide, by decide, by decide, by decide, h.table⟩

theorem witness_RequestFollowsPass (st : RequestState) : (withRequest st).requestsSound ∧
    (∃ r ∈ (withRequest st).requests.queue, r.state = st ∧ r.next = 40 ∧ r.next < r.last) ∧
    lastRead.requestsSound ∧ (∃ r ∈ lastRead.requests.queue, r.state = .active ∧ r.next = r.last) ∧
    (∀ r ∈ (withRequest .queued).requests.queue, r.state ≠ .active) ∧
    (∀ r ∈ (withRequest .taken).requests.queue, r.state = .taken → r.next ≠ 41) :=
  ⟨withRequest_sound st, by cases st <;> decide, lastRead_sound, by decide, by decide, by decide⟩

/-- Pass 2 open in segment 1, with three VALID spans behind it, auto render on and a job in flight. -/
def transferring : State :=
  let s := recording .queued
  let spans := List.replicate 3 { SpanRecord.fresh with validity := .valid } ++ List.replicate 13 SpanRecord.fresh
  { s with
    store := { s.store with strips := [(0, strip0), (1, { strip1 with spans := spans })] }
    render := ⟨[], false, some (job [0])⟩ }

theorem witness_RenderAnsweredInOrder : (held.hasRoom ∧ (rendered.link.commands.length < 16 ∧
    rendered.currentSlot 1 .A = some 0 ∧ rendered.currentSlot 1 .B = none) ∧
    (∃ j ∈ [(⟨1, .B, false⟩ : QueuedJob)], j.segment = 1 ∧ j.side = .B) ∧
    (∃ e ∈ (held.segment 1).entries, ∃ f, e.fields = some f ∧ f.exclude = false) ∧ (held.segment 4095).entries = [] ∧
    (List.replicate 8 (⟨2, .A, true⟩ : QueuedJob)).length = 8 ∧ { held.render with job := some (job []) }.job ≠ none ∧
    held.render.job = none ∧ held.render.queue = []) ∧
    ((∃ e ∈ (held.segment 1).entries, e.pass = 1 ∧ e.fields ≠ none) ∧ transferring.link.profile.autoRender = true ∧
      { held.link.profile with autoRender := false }.autoRender = false) ∧
    transferring.canonical ∧ transferring.capture.pass = some ⟨2, some ⟨1, 1⟩, 1⟩ ∧
    transferring.capture.span = some span ∧ (transferring.strip 1).state ≠ .vacant ∧
    (transferring.strip 1).spans[2]? = some { SpanRecord.fresh with validity := .valid } ∧ 2 ≠ span.index ∧
    (∃ e ∈ (transferring.segment 1).entries, e.pass = 2) ∧ transferring.render.job ≠ none ∧
    transferring.render.queue = [] ∧ (∀ i h d r, transferring.slot i = .ready h r d → h.segment ≠ 1) ∧
    ∀ g e, g + 1 = 1 → e ∈ (transferring.segment g).entries → e.pass ≠ 2 :=
  ⟨⟨held_hasRoom, by decide, by decide, ⟨_, List.mem_singleton_self _, _, rfl, rfl⟩, by decide, by decide, by decide, rfl,
      rfl⟩,
    by decide, ⟨by decide, by decide, by decide, by decide⟩, rfl, rfl, by decide, by decide, by decide, by decide, by decide,
    rfl, fun i h d r hs => absurd (hs : Slot.free = _) nofun, fun g e hg he => by
      obtain rfl : g = 0 := by omega
      exact absurd (he : e ∈ []) List.not_mem_nil⟩

theorem witness_RenderTakesChosenSlot :
    (held.render.queue = [] ∧
      { held with render := ⟨[⟨4095, .A, true⟩], false, none⟩ }.candidateSet 4095 = []) ∧
    (let s : State := { ready with render := ⟨[⟨1, .B, true⟩], false, none⟩ }
     s.canonical ∧ s.slotsAgree ∧ s.candidateSet 1 ≠ [] ∧ s.slot 1 = .free ∧ (∀ i < 1, s.slot i ≠ .free) ∧
       s.chooseSlot 1 .B = some 1) ∧
    (∀ fetched, (occupied fetched).canonical ∧ (occupied fetched).slotsAgree ∧
      (∀ k < 32, (occupied fetched).slot k ≠ .free) ∧
      { occupied fetched with render := ⟨[⟨1, .B, true⟩], true, none⟩ }.candidateSet 1 ≠ []) ∧
    (occupied true).slot 5 = .ready ⟨45, .A, 0, 2⟩ ⟨0, 0, 0, true⟩ [] ∧
    (occupied true).slots.completion = [0, 1, 2, 3, 4] ++ 5 :: (List.range 26).map (· + 6) ∧
    (occupied true).chooseSlot 1 .B = some 5 ∧ (occupied false).chooseSlot 1 .B = none ∧
    (occupied false).chooseSlot 71 .A = some 31 :=
  ⟨⟨rfl, by decide⟩, ⟨⟨by decide, by decide, by decide, by decide⟩,
      ⟨ready_slots.range, ready_slots.distinct, ready_slots.completion, ready_slots.single, ready_slots.fields⟩, by decide⟩,
    fun fetched => ⟨by cases fetched <;> exact ⟨by decide, by decide, by decide, by decide⟩,
      (occupied_slots fetched).toslotsAgree, by cases fetched <;> decide⟩, by decide⟩

theorem witness_RenderBurstsEndInReadySlot :
    let reading : State := { rendered with
      store := { rendered.store with burst := some .render }, render := ⟨[], false, some (job [0])⟩ }
    let writing : State := { rendered with
      store := { rendered.store with burst := some .render }, render := ⟨[], false, some (job [])⟩ }
    held.store.burst ≠ some .render ∧ (job [0]).blocksRead + 1 < reading.readBursts 0 ∧ writing.canonical ∧
      (job []).bursting = true ∧ (job []).generated.length ≤ 341 ∧ (job []).spans.length ≤ (job []).nextSpan ∧
      writing.readySlot 1 .B = none ∧ writing.readySlot 1 .A = some 0 ∧ writing.slot 1 = .filling slotHead [] ∧
      reading.readBursts 0 ≤ 3 + 1 ∧ { job [0, 7] with blocksRead := 3 }.toRead = 0 :: [7] ∧ [7] ≠ [] :=
  ⟨by decide, by decide, ⟨by decide, by decide, by decide, by decide⟩, by decide⟩

theorem witness_RenderBurstsEndInReadySlot_pairs (n : Nat) (h : 341 < n) :
    let pairs : List (Int × Int) := List.replicate n (1, 1)
    341 < { job [] with generated := pairs }.generated.length := by
  simpa using h

/-- A span with output has samples generated, one without has none (R140). -/
theorem witness_RenderBurstsEndInReadySlot_spans :
    let j : Nat → Job := fun n => { job [] with spans := [⟨none, 65536, n, 0⟩], generated := [] }
    (∀ n, (j n).nextSpan < (j n).spans.length ∧ (j n).spans[(j n).nextSpan]? = some ⟨none, 65536, n, 0⟩) ∧
      (held.generateSpan (j 1)).generated ≠ [] ∧ (held.generateSpan (j 0)).generated = [] :=
  ⟨fun _ => ⟨Nat.zero_lt_one, rfl⟩, by decide, by decide⟩

theorem witness_LostStripAbortsJob :
    let j : Job := { job [0] with entries := [⟨1, 0, fields, none, some 7⟩] }
    rendered.canonical ∧ { rendered with render := ⟨[], false, some j⟩ }.render.job = some j ∧
      (∃ e ∈ j.entries, e.strip = 0 ∨ e.lower = some 0 ∨ e.upper = some 0) ∧
      (∃ e ∈ j.entries, e.strip = 7 ∨ e.lower = some 7 ∨ e.upper = some 7) ∧
      ¬∃ e ∈ j.entries, e.strip = 8 ∨ e.lower = some 8 ∨ e.upper = some 8 :=
  ⟨rendered_canonical, rfl, ⟨_, List.mem_singleton_self _, .inl rfl⟩, ⟨_, List.mem_singleton_self _, .inr (.inr rfl)⟩, by
    rintro ⟨e, he, h⟩
    cases List.mem_singleton.mp he
    exact absurd h (by decide)⟩

/-- `held` with a span table of VALID records of quality 15 in its strip, to render from. -/
def material : State :=
  let record : SpanRecord := { SpanRecord.fresh with validity := .valid, frames := 2, quality := Oct.fill 15 }
  { held with store := { held.store with strips := [(0, { strip0 with spans := List.replicate 16 record })] } }

/-- A job entry for pass 1 in strip 0. -/
def jobEntry (lower upper : Option Nat) : JobEntry := ⟨1, 0, fields, lower, upper⟩

/-- Pass 1 in two segments: strip 0 of segment 1 and strip 1 of segment 2, each naming the other, their span tables VALID with
an applied length of 400,000 and a fraction of 7. -/
def neighbours : State :=
  let side : SpanTimebase := ⟨400000, .locked, some true, 7⟩
  let record : SpanRecord := { SpanRecord.fresh with validity := .valid, timebase := some ⟨side, side⟩ }
  let spans := List.replicate 16 record
  { held with
    store := { held.store with strips :=
      [(0, { strip0 with descriptor := some { descriptor with next := some 1 }, spans := spans }),
        (1, { strip0 with owner := some (2, 1), descriptor := some { descriptor with previous := some 0 }, spans := spans })] }
    map := { held.map with segments := [(1, segment1), (2, { segment1 with entries := [⟨1, 1, some fields⟩] })] } }

/-- An entry without a VALID span. -/
def cutEntry : JobEntry := ⟨2, 0, { fields with validity := List.replicate 16 .cut, locked := ⟨0, 0⟩ }, none, none⟩

/-- Edge strips across a segment boundary (R129), the reference order, the first and last span of a provider, an absent span
and its lead entry (R130), and the bounds of the accumulator (R131). -/
theorem witness_OutputCountsCarryFraction :
    (neighbours.candidateSet 1 = [jobEntry none (some 1)] ∧ neighbours.candidateSet 2 = [⟨1, 1, fields, some 0, none⟩]) ∧
    rankEntries .A [cutEntry, jobEntry none (some 1)] = [jobEntry none (some 1), cutEntry] ∧
    (∀ k, k = 0 ∨ k = 15 → providerOf [cutEntry, jobEntry none none] k = some (jobEntry none none) ∧
      (neighbours.spanRecord 0 k).bind (·.timebase) = some ⟨⟨400000, .locked, some true, 7⟩, ⟨400000, .locked, some true, 7⟩⟩) ∧
    (∀ k, k = 0 ∨ k = 15 → providerOf [cutEntry] k = none ∧
      (neighbours.strip cutEntry.strip).descriptor = some { descriptor with next := some 1 }) ∧
    (0 : Int) ≤ 65535 ∧ (65535 : Int) < 65536 ∧ ∀ i, 0 ≤ held.appliedLength [] .A i :=
  ⟨by decide, by decide, fun k h => by rcases h with rfl | rfl <;> decide, fun k h => by rcases h with rfl | rfl <;> decide,
    by decide, by decide, fun _ => Int.le_refl 0⟩

/-- A READY slot whose segment has changed once since its take: held, and not current (R126, R154). -/
theorem witness_RenderAnsweredInOrder_slot : ready.slotsAgree ∧
    ready.slot 0 = .ready slotHead ⟨0, 0, 0, false⟩ [(1, 1), (2, 2)] ∧ (slotHead.segment = 1 ∧ slotHead.side = .A) ∧
    slotHead.changes ≤ (ready.segment 1).changes ∧ (ready.segment 1).changes < slotHead.changes + 4294967296 ∧
    ready.readySlot 1 .A = some 0 ∧ ready.currentSlot 1 .A = none :=
  ⟨ready_slots.toslotsAgree, rfl, by decide, by decide, by decide, by decide, by decide⟩

/-- The provider's two elements of a track as voices of span 15 (R132). -/
theorem witness_CandidatesReadAndAligned_reference :
    let v : Fin 8 → Voice := fun el => ⟨jobEntry none none, el, 15, 0, 0, 2, 2⟩
    [jobEntry none none] = [] ++ jobEntry none none :: [] ∧ (jobEntry none none).pass = 1 ∧
      material.voiceOf 2 15 (jobEntry none none) 0 = some (v 0) ∧ material.voiceOf 2 15 (jobEntry none none) 1 = some (v 1) ∧
      (trackOf 0 = 0 ∧ trackOf 1 = 0) ∧ material.voiceOf 2 16 (jobEntry none none) 0 = none := by decide +kernel

/-- The reference candidate of span 15 on track 0 (R132): of equal qualities the lower element. -/
theorem witness_CandidatesReadAndAligned :
    ((material.strip 0).frames[1]? = some frame ∧ (material.strip 0).frames.length = 2 ∧ (0 : Int) < 2 ∧ (-1 : Int) < 0 ∧ (2 : Int) ≤ 2) ∧
    (material.candidatesOf [jobEntry none none] (some 1) 2 15 0).reference =
      some ⟨jobEntry none none, outerOf 0, 15, 0, 0, 2, 2⟩ ∧
    0 < (⟨jobEntry none none, 0, 15, 0, 0, 2, 2⟩ : Voice).count ∧
    (∀ p, material.sampleAt p 0 ≤ 8388607 ∧ -8388608 ≤ material.sampleAt p 0) := by
  refine ⟨by decide, by decide +kernel, by decide, fun p => ?_⟩
  have hf : ∀ f ∈ (material.strip p.strip).frames, f = frame := by
    show ∀ f ∈ (Table.get Strip.blank [(0, _)] p.strip).frames, f = frame
    rw [Table.get_cons]
    split
    · exact (by decide : ∀ f ∈ [frame, frame], f = frame)
    · exact fun f h => absurd h List.not_mem_nil
  unfold State.sampleAt
  cases h : (material.strip p.strip).frames[p.frame]? with
  | none => decide
  | some f =>
    rw [hf f (List.mem_of_getElem? h)]
    decide

theorem witness_CellsChosenConcealedFaded :
    let v : Voice := ⟨jobEntry none none, 0, 15, 0, 0, 2, 2⟩
    let c : Candidates := ⟨some v, [], 0⟩
    ({ strip0 with dropout := [0#8, 255#8] }.dropout[127 / 64]? = some 255#8 ∧
      material.chooseVoice c 0 1 = some v ∧ v.position 0 / 65536 ≤ v.position 1 / 65536) ∧
    material.chooseVoice ⟨some { v with quality := 0 }, [], 0⟩ 0 1 = none ∧ (2 ≤ 32 * 1 ∧ 33 ≤ 32 * 2) ∧
    (⟨some .mute, 65535⟩ : JobTrack).unrecovered ≤ 65535 := by decide

theorem witness_SlotReleaseFreesReadySlot : rendered.canonical ∧ rendered.link.commands.length < 16 ∧ 31 < 32 ∧
    rendered.slot 31 = .free ∧ rendered.slot 1 = .filling slotHead [] ∧
    rendered.slot 0 = .ready slotHead ⟨0, 0, 0, false⟩ [(1, 1), (2, 2)] ∧ rendered.render.headWaiting = false ∧
    waiting.render.headWaiting = true ∧ waiting.slot 31 = .ready ⟨71, .A, 0, 2⟩ ⟨0, 0, 0, false⟩ [] :=
  ⟨rendered_canonical, by decide⟩

theorem witness_FetchesTestedThenRead :
    (rendered.link.commands.length < 16 ∧ rendered.store.stripCount ≤ 256 ∧
      (rendered.strip 255).state = .vacant ∧ (rendered.strip 0).state ≠ .vacant ∧
      (rendered.strip 0).frames.length < 0 + 3 ∧ 0 + 2 ≤ (rendered.strip 0).frames.length ∧
      ¬(rendered.store.stripCount ≤ 0 ∨ 7 < 7 ∨ 2 = 0 ∨ 21845 < 2) ∧ ¬(31 < 0 ∨ 2 = 0 ∨ 10922 < 2) ∧
      rendered.slot 0 = .ready slotHead ⟨0, 0, 0, false⟩ [(1, 1), (2, 2)] ∧ slotHead.sampleCount < 0 + 3 ∧
      0 + 2 ≤ slotHead.sampleCount) ∧
    let fetch : Nat → Read := fun k => ⟨.rendition k 0 2, 0, [], some [1#8]⟩
    let bursting : State → Nat → State := fun s k => { s with
      store := { s.store with burst := some .link }
      link := { s.link with commands := [] ++ ⟨41, .reading (fetch k)⟩ :: [] } }
    rendered.store.burst ≠ some .link ∧ (bursting rendered 0).canonical ∧ (bursting rendered 0).store.burst = some .link ∧
      0 + 1 < (ReadTarget.strip 0).bursts ∧ (fetch 0).target.bursts ≤ 0 + 1 ∧
      (bursting rendered 0).slot 0 = .ready slotHead ⟨0, 0, 0, false⟩ [(1, 1), (2, 2)] ∧
      0 + 2 = slotHead.sampleCount ∧ (bursting waiting 31).canonical ∧ (bursting waiting 31).slotsSound ∧
      (bursting waiting 31).render.headWaiting = true ∧ (bursting waiting 31).render.queue = ⟨1, .B, true⟩ :: [] ∧
      (bursting waiting 31).slot 31 = .ready ⟨71, .A, 0, 2⟩ ⟨0, 0, 0, false⟩ [] :=
  ⟨by decide, by decide, ⟨by decide, by decide, by decide, by decide⟩, by decide, by decide, by decide, by decide, by decide,
    ⟨by decide, by decide, by decide, by decide⟩,
    ⟨⟨waiting_slots.range, waiting_slots.distinct, waiting_slots.completion, waiting_slots.single, waiting_slots.fields⟩,
      waiting_slots.filling, waiting_slots.job, waiting_slots.waiting, waiting_slots.idle, waiting_slots.behind,
      waiting_slots.inMap, waiting_slots.queued⟩, rfl, rfl, by decide⟩

theorem witness_ReadsReturnStoredData :
    (let s : State := { held with link := { held.link with commands := [] ++ ⟨4, .reading ⟨.strip 0, 0, [], none⟩⟩ :: [] } }
     s.store.burst = none ∧ s.writerRequest = none ∧ s.renderWants = false ∧ (s.strip 0).state = .held ∧
       (s.strip 0).descriptor = some descriptor ∧ descriptor.ended = true) ∧
    ((held.strip 0).owner = some (1, 1) ∧ (held.strip 0).dropout.length ≤ 4096 ∧
      held.capture.pass.bind (·.entered) = none) ∧
    (((recording .active).strip 1).descriptor = some { descriptor with ended := false } ∧
      ((recording .active).strip 1).owner = some (1, 2) ∧
      (recording .active).capture.pass.bind (·.entered) = some ⟨1, 1⟩ ∧ (recording .active).capture.span = some span) ∧
    ((7 : Fin 8).val = 7 ∧ 0 < 2 ∧ 0 + 2 ≤ (held.strip 0).frames.length) ∧
    rendered.slot 0 = .ready slotHead ⟨0, 0, 0, false⟩ [(1, 1), (2, 2)] := by decide

theorem witness_AdvisorySpeedMovesOneStep : State.reset.link.profile.advisory.valid = true ∧
    400 ≤ State.reset.advisory.speed ∧ State.reset.advisory.speed ≤ 1000 ∧
    State.reset.link.profile.advisory.jump = true ∧ State.reset.map.session ≠ .armed ∧
    held.link.profile.advisory.valid = true ∧ (held.map.session = .armed ∧ held.motion.sync = .synced) ∧
    held.motion.tapeEnd = none ∧ held.link.profile.advisory.ahead = true ∧
    ((608 : Int) / 512 + 1 ≤ (2 : Nat) ∧ ((2 : Nat) : Int) ≤ 608 / 512 + held.link.profile.advisory.lookAhead) := by decide

theorem witness_HeaderAcceptedOrLost : State.reset.link.rx.held = [] ∧ State.reset.link.rx.frame = none ∧
    [] ++ headerBytes 0 5 3 = [5#8, 3#8, 0#8, 6#8] ∧ [5#8, 3#8, 0#8] ++ [6#8] = [5#8, 3#8, 0#8, 6#8] ∧ 3 + 0 < 4 ∧
    (⟨0, 39, 3, 5, List.replicate 4 0#8⟩ : RxFrame).bytes.length < 5 := by decide

/-- The search of HUNT (R186): with three bytes held, one byte makes the next candidate, and an error-free one is accepted. -/
theorem test_hunt_search :
    let s : State := { State.reset with link := { State.reset.link with rx := ⟨.hunt, [9#8, 5#8, 3#8], none⟩ } }
    ∃ t, exec (.linkHeader [0#8]) s = .next t ∧ t.link.rx = ⟨.hunt, [5#8, 3#8, 0#8], none⟩ ∧
      ∃ u, exec (.linkHeader [6#8]) t = .next u ∧ u.link.rx.state = .framed :=
  ⟨_, rfl, by decide, _, rfl, by decide⟩

theorem witness_FramesSortedByFirstCase :
    let f : RxFrame := ⟨2, 39, 2, 4, [0#8]⟩
    f.bytes.length + [0#8, 0#8, 0#8].length = f.need ∧ 2 ≤ f.channel ∧ held.hasRoom ∧
      ¬((1 ≤ 0 ∧ 0 ≤ 9) ∨ (32 ≤ 0 ∧ 0 ≤ 42)) ∧ (crc [0#8]).toNat ≠ ofLe [0#8, 0#8] ∧
      (crc [0#8]).toNat = ofLe [2#8, 253#8] ∧ 1 ≠ payloadLength 39 :=
  ⟨by decide, by decide, held_hasRoom, by decide, by decide, by decide, by decide⟩

theorem witness_FramesSortedByFirstCase_full : (commandFrame .mapSummary).isSome = true ∧
    Instr.mapSummary ≠ .workstationRestart ∧ 16 ≤ full.link.commands.length ∧
    (⟨1, 9, 0, 0, []⟩ : RxFrame).bytes.length + 0 = 0 ∧ (⟨0, 63, 0, 2, []⟩ : RxFrame).bytes.length + 2 = 2 ∧
    ((⟨0, 42, 1, 3, [0#8]⟩ : RxFrame).bytes.length + 2 = 3 ∧ 1 ≠ payloadLength 42) := by decide

theorem witness_ProfileLoadTestedThenHeld : held.hasRoom ∧ (List.replicate 52 0#8).length = 52 ∧
    (recording .queued).capture.pass ≠ none ∧ held.capture.pass = none ∧ held.render.job = none ∧
    readProfile (List.replicate 52 0#8) = none ∧ readProfile Profile.default.image = some Profile.default ∧
    Profile.default.image.length = 52 := ⟨held_hasRoom, rfl, by decide, rfl, rfl, rfl, rfl, rfl⟩

theorem witness_NewTapeClearsMap : held.hasRoom ∧ (recording .queued).capture.pass ≠ none ∧
    (withRequest .taken).requestsSound ∧ (withRequest .taken).capture.pass = none :=
  ⟨held_hasRoom, by decide, withRequest_sound _, rfl⟩

theorem witness_ResumeTapeOnlyWhenStale : held.hasRoom ∧ held.map.session ≠ .stale ∧
    { held.map with session := .stale }.session = .stale := ⟨held_hasRoom, by decide, rfl⟩

theorem witness_WorkstationRestartLeavesRest (st : RequestState) : (recording st).canonical ∧ (recording st).requestsSound :=
  ⟨recording_canonical st, recording_sound st⟩

theorem witness_TransmitterSendsInOrder_frame :
    let f : OutFrame := ⟨1, 42, [255#8]⟩
    f.channel < 4 ∧ f.kind < 64 ∧ f.bytes.take 3 = [106#8, 1#8, 0#8] := by decide

theorem witness_TransmitterSendsInOrder :
    let r : Response := ⟨4, .ok, .strip 0⟩
    let sending : Transmission := ⟨.response, r.frame⟩
    held.link.tx = none ∧ { held.link with tx := some sending, commands := [⟨4, .formed r (some [])⟩] }.tx = some sending ∧
      (∃ x : Response, (⟨4, .formed r none⟩ : PendingCommand).answer = .formed x none) ∧
      { held.link with notices := [.restarted] }.notices = .restarted :: [] ∧ held.link.commands.head? = none ∧
      held.lineServed ∧ (let s : State := { held with link := { held.link with tx := some sending, notices := [.restarted] } }
        s.lineServed ∧ ∃ t, exec .linkFrameSent s = .next t ∧ t.link.notices = [] ∧
          t.link.tx.map (·.role) = some .notice) :=
  ⟨rfl, rfl, ⟨_, rfl⟩, rfl, rfl, held_lineServed, fun h => (by cases h), _, rfl, by decide⟩

end Sys2Proof.Tests
end

section
/-! SUPPORT. The Timebase Unit's shared operations, each said once: the lock window is convex (R48), an applied length lies
between the last one and its target (R54, R55), the lock's step in each of its cases (R51 to R53), and what a span taken for a
side leaves. Then the statement on both sides. -/

namespace Sys2Proof.Machine

/-! ## The lock window and the applied length -/

/-- A length within the lock window about the tach length, as R48 tests a residue length. -/
def LengthInWindow (tTach w : Nat) (n : Int) : Prop := (n - tTach).natAbs * 1024 ≤ tTach * w

theorem inWindow_iff (n tTach w : Nat) : inWindow n tTach w = true ↔ LengthInWindow tTach w n := decide_eq_true_iff

theorem lengthInWindow_tTach (tTach w : Nat) : LengthInWindow tTach w tTach := by
  simp [LengthInWindow]

/-- The window is convex: a length between two lengths of the window is in it. -/
theorem LengthInWindow.of_between {tTach w : Nat} {a b n : Int} (ha : LengthInWindow tTach w a)
    (hb : LengthInWindow tTach w b) (hn : a ≤ n ∧ n ≤ b ∨ b ≤ n ∧ n ≤ a) : LengthInWindow tTach w n := by
  have farther : (n - tTach).natAbs ≤ (a - tTach).natAbs ∨ (n - tTach).natAbs ≤ (b - tTach).natAbs := by omega
  obtain h | h := farther
  · exact Nat.le_trans (Nat.mul_le_mul_right 1024 h) ha
  · exact Nat.le_trans (Nat.mul_le_mul_right 1024 h) hb

/-- The slew limits never carry the applied length past its target, nor away from it. -/
theorem appliedStep_between (p : TimebaseSettings) (jumped : Bool) (prev target : Int) :
    prev ≤ appliedStep p jumped prev target ∧ appliedStep p jumped prev target ≤ target ∨
      target ≤ appliedStep p jumped prev target ∧ appliedStep p jumped prev target ≤ prev := by
  unfold appliedStep clamp
  split <;> omega

theorem appliedStep_hold (p : TimebaseSettings) (prev : Int) : appliedStep p false prev prev = prev := by
  have h := appliedStep_between p false prev prev
  omega

/-! ## The lock -/

section Lock

variable {x : SideTimebase} {tTach nq : Nat}

theorem lockStep_tach (accepted : Bool) (hl : x.lock = .tach) : lockStep x tTach nq accepted = (x, (tTach : Int)) := by
  simp [lockStep, hl]

theorem lockStep_unlocked_counts (hl : x.lock = .unlocked) (ha : x.acceptRun < 7) :
    lockStep x tTach nq true = (⟨.unlocked, x.acceptRun + 1, 0, x.nPrev, x.accumulator⟩, (tTach : Int)) := by
  simp [lockStep, hl, show ¬7 ≤ x.acceptRun by omega]

theorem lockStep_unlocked_locks (hl : x.lock = .unlocked) (ha : x.acceptRun = 7) :
    lockStep x tTach nq true = (⟨.locked, 8, 0, x.nPrev, x.accumulator⟩, (nq : Int)) := by
  simp [lockStep, hl, ha]

theorem lockStep_unlocked_rejects (hl : x.lock = .unlocked) :
    lockStep x tTach nq false = (⟨.unlocked, 0, 0, x.nPrev, x.accumulator⟩, (tTach : Int)) := by
  simp [lockStep, hl]

theorem lockStep_locked_follows (hl : x.lock = .locked) :
    lockStep x tTach nq true = (⟨.locked, x.acceptRun, 0, x.nPrev, x.accumulator⟩, (nq : Int)) := by
  simp [lockStep, hl]

theorem lockStep_locked_holds (hl : x.lock = .locked) (hr : x.rejectRun < 3) :
    lockStep x tTach nq false = (⟨.locked, x.acceptRun, x.rejectRun + 1, x.nPrev, x.accumulator⟩, x.nPrev) := by
  simp [lockStep, hl, show ¬3 ≤ x.rejectRun by omega]

theorem lockStep_locked_falls (hl : x.lock = .locked) (hr : x.rejectRun = 3) :
    lockStep x tTach nq false = (⟨.unlocked, 0, 0, x.nPrev, x.accumulator⟩, (tTach : Int)) := by
  simp [lockStep, hl, hr]

/-- The target is the tach length, the last applied length, or the length just accepted. -/
theorem lockStep_target (x : SideTimebase) (tTach nq : Nat) (accepted : Bool) :
    let target := (lockStep x tTach nq accepted).2
    target = tTach ∨ target = x.nPrev ∨ accepted = true ∧ target = nq := by
  cases hl : x.lock with
  | tach => simp [lockStep, hl]
  | unlocked =>
    cases accepted with
    | false => simp [lockStep, hl]
    | true => by_cases hr : 7 ≤ x.acceptRun <;> simp [lockStep, hl, hr]
  | locked =>
    cases accepted with
    | false => by_cases hr : 3 ≤ x.rejectRun <;> simp [lockStep, hl, hr]
    | true => simp [lockStep, hl]

/-- The target lies within the window, where the last applied length does and a length is accepted only within it. -/
theorem lockStep_keeps_window {w : Nat} {accepted : Bool} (hx : LengthInWindow tTach w x.nPrev)
    (hn : accepted = true → LengthInWindow tTach w nq) :
    LengthInWindow tTach w (lockStep x tTach nq accepted).2 := by
  obtain ht | ht | ⟨ha, ht⟩ := lockStep_target x tTach nq accepted <;> rw [ht]
  · exact lengthInWindow_tTach tTach w
  · exact hx
  · exact hn ha

end Lock

/-! ## A span taken for one side -/

theorem sourceTrack_tach (sd : Side) : sourceTrack sd .tach = none := by
  cases sd <;> rfl

/-- The residue sources of a side and their tracks, as R45 lists them. -/
theorem sourceTrack_of_mem {sd : Side} {src : Source} {t : Fin 4}
    (h : (sd, src, t) ∈ ([(.A, .resLeft, 0), (.A, .resRight, 1), (.B, .resLeft, 3), (.B, .resRight, 2)] :
      List (Side × Source × Fin 4))) : sourceTrack sd src = some t := by
  simp only [List.mem_cons, List.not_mem_nil, or_false, Prod.mk.injEq] at h
  obtain ⟨rfl, rfl, rfl⟩ | ⟨rfl, rfl, rfl⟩ | ⟨rfl, rfl, rfl⟩ | ⟨rfl, rfl, rfl⟩ := h <;> rfl

/-- A side after a span, with what is stored of it: the lock state and runs, the verdict, and the length applied. -/
def SideBecomes (r : SideTimebase × SpanTimebase) (lock : LockState) (accepts rejects : Nat) (verdict : Option Bool)
    (n : Int) : Prop :=
  r.1.lock = lock ∧ r.1.acceptRun = accepts ∧ r.1.rejectRun = rejects ∧ r.2.accepted = verdict ∧ r.1.nPrev = n

section Side

variable {p : TimebaseSettings} {tTach : Nat} {sd : Side} {src : Source} {x y : SideTimebase} {c : Quad (BitVec 16)}
  {t : Fin 4} {target : Int} {verdict : Bool}

/-- The applied length is stored, and the sum of the accumulator and it carried on modulo 65,536 (R56, R58). -/
theorem sideSpan_carries (p : TimebaseSettings) (tTach : Nat) (sd : Side) (src : Source) (x : SideTimebase)
    (c : Quad (BitVec 16)) :
    let r := sideSpan p tTach sd src x c
    r.2.applied = r.1.nPrev ∧ r.2.lock = r.1.lock ∧ r.2.fraction = x.accumulator ∧ r.1.accumulator < 65536 ∧
      (r.1.accumulator : Int) = (x.accumulator + r.2.applied) % 65536 := by
  intro r
  have sum : r.1.accumulator = (((x.accumulator : Int) + r.2.applied) % 65536).toNat := rfl
  exact ⟨rfl, rfl, rfl, by omega, by omega⟩

/-- A side without a residue source takes the lock's step with no length accepted. -/
theorem sideSpan_tach (hs : sourceTrack sd src = none) :
    let step := lockStep x tTach 0 false
    SideBecomes (sideSpan p tTach sd src x c) step.1.lock step.1.acceptRun step.1.rejectRun none
      (appliedStep p (p.jump && decide (step.1.lock ≠ x.lock)) x.nPrev step.2) := by
  simp [SideBecomes, sideSpan, hs]

/-- A TACH side stays TACH, and moves towards the tach length within the slew limits (R53). -/
theorem sideSpan_tach_slews (hs : sourceTrack sd src = none) (hl : x.lock = .tach) :
    SideBecomes (sideSpan p tTach sd src x c) .tach x.acceptRun x.rejectRun none
      (appliedStep p false x.nPrev tTach) := by
  simpa [lockStep_tach, hl] using sideSpan_tach (p := p) (tTach := tTach) (x := x) (c := c) hs

/-- A side with a residue source takes the lock's step with the length of its track and the window's verdict on it. -/
theorem sideSpan_residue (hs : sourceTrack sd src = some t) :
    let n := residueLength (c.get t).toNat p.bias
    let step := lockStep x tTach n (inWindow n tTach p.window)
    SideBecomes (sideSpan p tTach sd src x c) step.1.lock step.1.acceptRun step.1.rejectRun
      (some (inWindow n tTach p.window)) (appliedStep p (p.jump && decide (step.1.lock ≠ x.lock)) x.nPrev step.2) := by
  simp [SideBecomes, sideSpan, hs]

/-- Where the lock stays, the applied length moves within the slew limits. -/
theorem sideSpan_residue_slews (hs : sourceTrack sd src = some t)
    (hv : inWindow (residueLength (c.get t).toNat p.bias) tTach p.window = verdict)
    (hstep : lockStep x tTach (residueLength (c.get t).toNat p.bias) verdict = (y, target)) (hl : x.lock = y.lock) :
    SideBecomes (sideSpan p tTach sd src x c) y.lock y.acceptRun y.rejectRun (some verdict)
      (appliedStep p false x.nPrev target) := by
  simpa [hv, hstep, hl] using sideSpan_residue (p := p) (tTach := tTach) (x := x) (c := c) hs

/-- Where the lock changes, the applied length jumps to the target if the settings say so. -/
theorem sideSpan_residue_jumps (hs : sourceTrack sd src = some t)
    (hv : inWindow (residueLength (c.get t).toNat p.bias) tTach p.window = verdict)
    (hstep : lockStep x tTach (residueLength (c.get t).toNat p.bias) verdict = (y, target)) (hl : x.lock ≠ y.lock) :
    SideBecomes (sideSpan p tTach sd src x c) y.lock y.acceptRun y.rejectRun (some verdict)
      (appliedStep p p.jump x.nPrev target) := by
  simpa [hv, hstep, hl.symm] using sideSpan_residue (p := p) (tTach := tTach) (x := x) (c := c) hs

/-- A side within the lock window stays within it. -/
theorem sideSpan_keeps_window (h : LengthInWindow tTach p.window x.nPrev) :
    LengthInWindow tTach p.window (sideSpan p tTach sd src x c).1.nPrev := by
  cases hs : sourceTrack sd src with
  | none =>
    obtain ⟨-, -, -, -, hn⟩ := sideSpan_tach (p := p) (tTach := tTach) (x := x) (c := c) hs
    rw [hn]
    exact h.of_between (lockStep_keeps_window h Bool.noConfusion) (appliedStep_between ..)
  | some t =>
    obtain ⟨-, -, -, -, hn⟩ := sideSpan_residue (p := p) (tTach := tTach) (x := x) (c := c) hs
    rw [hn]
    exact h.of_between (lockStep_keeps_window h (inWindow_iff ..).mp) (appliedStep_between ..)

end Side

/-- Settles O32, from what a span does for one side: it carries the fraction, keeps the window, and takes the lock's step. -/
theorem appliedLengthFollowsLock : Obligations.AppliedLengthFollowsLock := by
  unfold Obligations.AppliedLengthFollowsLock
  refine ⟨fun tb c sd => ⟨rfl, rfl, by cases sd <;> rfl⟩, fun p tTach sd src x c =>
    ⟨sideSpan_carries p tTach sd src x c, sideSpan_keeps_window, ?_, fun t ht => ?_⟩⟩
  · rintro rfl hl
    exact sideSpan_tach_slews (sourceTrack_tach sd) hl
  · have hs := sourceTrack_of_mem ht
    have accepts := (inWindow_iff (residueLength (c.get t).toNat p.bias) tTach p.window).mpr
    have rejects := fun h => Bool.eq_false_iff.mpr
      (mt (inWindow_iff (residueLength (c.get t).toNat p.bias) tTach p.window).mp h)
    refine ⟨fun hl ha hr => ?_, fun hl ha hr => ?_, fun hl ha => ?_, fun hl ha => ?_, fun hl ha hr => ?_,
      fun hl ha hr => ?_⟩
    · exact sideSpan_residue_slews hs (accepts ha) (lockStep_unlocked_counts hl hr) hl
    · exact sideSpan_residue_jumps hs (accepts ha) (lockStep_unlocked_locks hl hr) (by simp [hl])
    · exact sideSpan_residue_slews hs (rejects ha) (lockStep_unlocked_rejects hl) hl
    · exact sideSpan_residue_slews hs (accepts ha) (lockStep_locked_follows hl) hl
    · have holds := sideSpan_residue_slews (p := p) hs (rejects ha) (lockStep_locked_holds hl hr) hl
      rwa [appliedStep_hold] at holds
    · exact sideSpan_residue_jumps hs (rejects ha) (lockStep_locked_falls hl hr) (by simp [hl])

end Sys2Proof.Machine
end
